-- ==== Sys2Proof/Word.lean ====
section
/-! DEFINITION. The word types of the engine (00_scope.md R8, R13; 30_encoding.md R75, R88). -/

namespace Sys2Proof

/-- A data byte, a register address or a channel or pin id (R8, R13). -/
abbrev Byte := BitVec 8

/-- A 16-bit primitive word (R88). -/
abbrev PrimWord := BitVec 16

/-- A 32-bit command word or host-visible register (R13, R75). -/
abbrev Word := BitVec 32

end Sys2Proof
end

