-- ==== Sys2Proof/Syntax.lean ====
section
/-! DEFINITION. The instructions: one constructor per row of spec/opcode_table.json, the six commands the Host
issues (30_encoding.md R84) and the five primitives the Bus Controller runs (30_encoding.md R89); and what a primitive puts
on the wire. -/

namespace Sys2Proof

/-- The cache slot of a READ_PORT (30_encoding.md R78). -/
inductive Slot where
  | portA
  | portB
  deriving DecidableEq, Repr

/-- An instruction. SIZE is a count, so a number; REG, VALUE and DATA are bytes sent unchanged on the bus. -/
inductive Instr where
  | init
  | writeReg (reg : Byte) (size : Nat)
  | readReg (reg : Byte) (size : Nat)
  | writeConfig (reg value : Byte)
  | readPort (reg : Byte) (slot : Slot)
  | readBoth
  | start
  | stop
  | wr (data : Byte)
  | rdAck
  | rdNack
  deriving DecidableEq, Repr

end Sys2Proof

namespace Sys2Proof.Machine

/-- What a primitive puts on the wire (40_session.md R111-R115). -/
inductive WireEvent where
  | start
  | restart
  | stop
  | write (b : Byte)
  | read (nack : Bool)
  deriving DecidableEq, Repr

end Sys2Proof.Machine
end

