-- ==== Sys2Proof/WellFormed.lean ====
section
/-! DEFINITION. Which instructions have an encoding: SIZE is an 8-bit field (30_encoding.md R78). A SIZE above
N_BUF is well formed: the engine answers it with the SIZE error (60_exceptions.md R183). -/

namespace Sys2Proof

/-- SIZE fits its 8-bit field (30_encoding.md R78). -/
def sizeFits (n : Nat) : Bool := decide (n < 256)

/-- The instruction's operands fit the fields of its format (30_encoding.md R80-R83, R89). -/
def Instr.wellFormed : Instr → Bool
  | .init => true
  | .writeReg _ n => sizeFits n
  | .readReg _ n => sizeFits n
  | .writeConfig _ _ => true
  | .readPort _ _ => true
  | .readBoth => true
  | .start => true
  | .stop => true
  | .wr _ => true
  | .rdAck => true
  | .rdNack => true

end Sys2Proof
end

