-- ==== Sys2Proof/Decode.lean ====
section
/-! DEFINITION. Decoding and encoding of the two word formats (30_encoding.md): the 32-bit command word and the
16-bit primitive word. Decoding is total and rejects by name. -/

namespace Sys2Proof

/-- Why a word is no instruction. -/
inductive DecodeError where
  /-- RSV0 or RSV1 of a command word is not 0 (R79). -/
  | reservedBits
  /-- OP is 0x0 or 0x7-0xF (R85). -/
  | reservedOpcode
  /-- A must-be-zero REG or ARG bit is set for the opcode (R79). -/
  | operandNotZero
  /-- A primitive word that is none of the five forms (R89, R90). -/
  | reservedPrimitive
  deriving DecidableEq, Repr

/-- A word of either format (R92: there is no third). -/
inductive CodeWord where
  | command (w : Word)
  | primitive (p : PrimWord)
  deriving DecidableEq, Repr

/-! ## The command word (R75) -/

/-- OP, bits 3:0. -/
def cmdOp (w : Word) : BitVec 4 := w.extractLsb' 0 4

/-- RSV0, bits 7:4. -/
def cmdRsv0 (w : Word) : BitVec 4 := w.extractLsb' 4 4

/-- REG, bits 15:8. -/
def cmdReg (w : Word) : Byte := w.extractLsb' 8 8

/-- ARG, bits 23:16. -/
def cmdArg (w : Word) : Byte := w.extractLsb' 16 8

/-- RSV1, bits 31:24. -/
def cmdRsv1 (w : Word) : Byte := w.extractLsb' 24 8

/-- SLOT is bit 0 of ARG: 0 the port A slot, 1 the port B slot (R78). -/
def slotOfArg (arg : Byte) : Slot := if arg.getLsbD 0 then .portB else .portA

/-- ARG of a slot (R83). -/
def slotArg : Slot → Byte
  | .portA => 0#8
  | .portB => 1#8

/-- Decoding of a command word, total on every 32-bit word (R86). -/
def decodeCommand (w : Word) : Except DecodeError Instr :=
  if cmdRsv1 w ≠ 0#8 ∨ cmdRsv0 w ≠ 0#4 then .error .reservedBits
  else if cmdOp w = 1#4 then
    if cmdReg w = 0#8 ∧ cmdArg w = 0#8 then .ok .init else .error .operandNotZero
  else if cmdOp w = 2#4 then .ok (.writeReg (cmdReg w) (cmdArg w).toNat)
  else if cmdOp w = 3#4 then .ok (.readReg (cmdReg w) (cmdArg w).toNat)
  else if cmdOp w = 4#4 then .ok (.writeConfig (cmdReg w) (cmdArg w))
  else if cmdOp w = 5#4 then
    if (cmdArg w).extractLsb' 1 7 = 0#7 then .ok (.readPort (cmdReg w) (slotOfArg (cmdArg w)))
    else .error .operandNotZero
  else if cmdOp w = 6#4 then
    if cmdReg w = 0#8 ∧ cmdArg w = 0#8 then .ok .readBoth else .error .operandNotZero
  else .error .reservedOpcode

/-- A command word from its fields, the reserved ones 0 (R75, R80-R83). -/
def commandWord (op : BitVec 4) (reg arg : Byte) : Word := 0#8 ++ arg ++ reg ++ 0#4 ++ op

/-! ## The primitive word (R88) -/

/-- KIND, bits 15:12. -/
def primKind (p : PrimWord) : BitVec 4 := p.extractLsb' 12 4

/-- A, bit 8. -/
def primA (p : PrimWord) : Bool := p.getLsbD 8

/-- DATA, bits 7:0. -/
def primData (p : PrimWord) : Byte := p.extractLsb' 0 8

/-- What a primitive word reads as (R91). -/
inductive PrimReading where
  | start
  | stop
  | write (b : Byte) (check : Bool)
  | read (nack : Bool)
  | reserved
  deriving DecidableEq, Repr

/-- The reading of a primitive word by its KIND, total on every 16-bit word (R91). -/
def readPrim (p : PrimWord) : PrimReading :=
  if primKind p = 1#4 then .start
  else if primKind p = 2#4 then .stop
  else if primKind p = 3#4 then .write (primData p) (primA p)
  else if primKind p = 4#4 then .read (primA p)
  else .reserved

/-- START (R89). -/
def startWord : PrimWord := 0x1000#16

/-- STOP (R89). -/
def stopWord : PrimWord := 0x2000#16

/-- WR b: acknowledgement required (R89). -/
def wrWord (b : Byte) : PrimWord := 0x31#8 ++ b

/-- RD ACK (R89). -/
def rdAckWord : PrimWord := 0x4000#16

/-- RD NACK (R89). -/
def rdNackWord : PrimWord := 0x4100#16

/-- Decoding of a primitive word: exactly the five forms of R89; any other word is rejected by name (R90). -/
def decodePrim (p : PrimWord) : Except DecodeError Instr :=
  if p = startWord then .ok .start
  else if p = stopWord then .ok .stop
  else if p = wrWord (primData p) then .ok (.wr (primData p))
  else if p = rdAckWord then .ok .rdAck
  else if p = rdNackWord then .ok .rdNack
  else .error .reservedPrimitive

/-- Decoding of a word of either format. -/
def decode : CodeWord → Except DecodeError Instr
  | .command w => decodeCommand w
  | .primitive p => decodePrim p

/-- The word of a well-formed instruction (R80-R83, R89, R93). -/
def encode : Instr → CodeWord
  | .init => .command (commandWord 1#4 0#8 0#8)
  | .writeReg reg n => .command (commandWord 2#4 reg (BitVec.ofNat 8 n))
  | .readReg reg n => .command (commandWord 3#4 reg (BitVec.ofNat 8 n))
  | .writeConfig reg v => .command (commandWord 4#4 reg v)
  | .readPort reg slot => .command (commandWord 5#4 reg (slotArg slot))
  | .readBoth => .command (commandWord 6#4 0#8 0#8)
  | .start => .primitive startWord
  | .stop => .primitive stopWord
  | .wr b => .primitive (wrWord b)
  | .rdAck => .primitive rdAckWord
  | .rdNack => .primitive rdNackWord

/-- The instruction decoded, or none. -/
def decodedInstr : Except DecodeError Instr → Option Instr
  | .ok i => some i
  | .error _ => none

/-- The instruction read from a word of spec/opcode_table.json: 32 bits is a command word, 16 bits a primitive
word; each is one whole word, so no bits are missing (R92). -/
def decodeTableWord (nbits w : Nat) : Option Instr :=
  if nbits = 32 then decodedInstr (decode (.command (BitVec.ofNat 32 w)))
  else if nbits = 16 then decodedInstr (decode (.primitive (BitVec.ofNat 16 w)))
  else none

end Sys2Proof
end

