-- ==== Sys2Proof/Config.lean ====
section
/-! DEFINITION. What the spec fixes for every engine, and the values it leaves free.
The constants without a body are free: nothing in Lean can evaluate one, so a statement holds for every value
of it. Each is applied to the state's draw counter (log 4). -/

namespace Sys2Proof.Config

/-- TIMEOUT_MS (00_scope.md R9). -/
def timeoutMs : Nat := 500

/-- BUS_FREQ_HZ (00_scope.md R10). -/
def busFreqHz : Nat := 100000

/-- The host window's size in bytes (20_memory.md R51). -/
def windowBytes : Nat := 0x400

/-- The largest N_BUF the spec admits (00_scope.md R11). -/
def maxBuf : Nat := 255

/-- An `any` byte (41_transport.md R137, 42_facade.md R160, 20_memory.md R65), and a byte the far device returns. -/
opaque freeByte : Nat → Byte

/-- An `any` 16-bit value of RESULT16 (42_facade.md R164, 20_memory.md R65). -/
opaque freeHalf : Nat → BitVec 16

/-- A code the Bus Controller answers (40_session.md R107). -/
opaque freeCode : Nat → Word

/-- The index of a failing primitive, before it is brought into range (40_session.md R109). -/
opaque freeIndex : Nat → Nat

/-- The bytes a failed submission returns: `any` list (40_session.md R109). -/
opaque freeBytes : Nat → List Byte

/-- Whether a STOP follows a failed primitive on the wire (40_session.md R109, 92_eei_decisions.md D26). -/
opaque freeStop : Nat → Bool

/-- Whether the bus is held where the spec does not say: after a failed primitive with no STOP (91_not_in_source.md
N14; log 21) and after a reset during a submission (93_implementation_defined.md U18; log 22). -/
opaque freeHeld : Nat → Bool

/-- What is on the wire after a reset during a submission (93_implementation_defined.md U18; log 22). -/
opaque freeWire : Nat → List Machine.WireEvent

/-- Whether a configure or install request is left unanswered (40_session.md R122). -/
opaque freeSilent : Nat → Bool

end Sys2Proof.Config
end

