-- ==== Sys2Proof/Machine/State.lean ====
section
/-! DEFINITION. The machine's state as plain data, the reasons a step can stop, and the state after reset
(10_state.md, 40_session.md, 70_reset_and_hazards.md R211). -/

namespace Sys2Proof.Machine

/-- The buffer bytes of the host window, keyed by window byte offset: TXBUF[i] at 0x100 + i, RXBUF[i] at
0x200 + i (20_memory.md R56). Canonical: addresses strictly rising, no entry equal to an unlisted byte. -/
abbrev Memory := List Host.Cell

/-- Why a step stops, or what the model's fault record holds. -/
inductive Fault where
  /-- INIT accepted with STATUS.INST = 1 (60_exceptions.md R188). Only ever RECORDED in `State.faults`; the run goes
  on as the spec says (95_test_vectors.md I-4). Safe: a run with a record is never a safe run (Safety.lean). -/
  | reinitUndefined
  /-- SESS_OPEN with a session existing (the `require` of 40_session.md R101). Safe: no run reaches it. -/
  | sessionNotFree
  /-- SESS_APPEND or SESS_EXECUTE with no open session (the `require` of R102, R103). Safe: no run reaches it. -/
  | sessionNotOpen
  /-- SESS_APPEND to a queue of Q_MAX words (the `require` of R102). Safe: no run reaches it (R116). -/
  | queueFull
  /-- An Engine step with STATUS.BUSY = 1 and no command latched (10_state.md R43, R45). Safe: no run reaches it. -/
  | noCommandLatched
  /-- An Engine step whose latch names a sub-step or a command that cannot be (R43). Safe: no run reaches it. -/
  | latchInconsistent
  deriving DecidableEq, Repr

/-- Why an access, an answer or a word has no meaning. -/
inductive Refusal where
  /-- An instruction with no meaning yet; no arm raises it. Safe. -/
  | notModelled (mnemonic : String)
  /-- A Host access that is not 4 bytes wide (60_exceptions.md R189). Safe. -/
  | badWidth
  /-- A Host access at an offset that is no multiple of 4 (R189). Safe. -/
  | misaligned
  /-- A Host access outside 0x000-0x3FF (R189). Safe. -/
  | outsideWindow
  /-- A supplied Bus Controller answer outside the contract of 40_session.md R108-R110, R122 (95_test_vectors.md
  2.4: a model must reject it). Safe. -/
  | replyBreaksContract
  /-- A primitive word that is none of the five forms, given to the Bus Controller (30_encoding.md R90). Safe. -/
  | reservedPrimitive
  /-- A second Host or engine on the channel (60_exceptions.md R198, 93_implementation_defined.md U6). Safe. -/
  | sharedChannel
  deriving DecidableEq, Repr

/-- STATUS.ERR (10_state.md R27): 0 NONE, 1 ILLEGAL, 2 SIZE; 3 is never written. -/
inductive EngineError where
  | none
  | illegal
  | size
  deriving DecidableEq, Repr

/-- STATUS (10_state.md R24-R31); the reserved bits are not stored, they read 0. -/
structure Status where
  busy : Bool
  done : Bool
  fail : Bool
  err : EngineError
  ovr : Bool
  inst : Bool
  reinit : Bool
  deriving DecidableEq, Repr

/-- DEVICE (10_state.md R32-R35); bit 7 is not stored, it reads 0. -/
structure Device where
  addr : BitVec 7
  chan : Byte
  sda : Byte
  scl : Byte
  deriving DecidableEq, Repr

/-- DIAG (10_state.md R38). -/
structure Diag where
  op : BitVec 4
  reg : Byte
  value : Byte
  deriving DecidableEq, Repr

/-- SESS (10_state.md R42). -/
inductive Sess where
  | none
  | opened
  | submitted
  deriving DecidableEq, Repr

/-- STEP: the next Bus Controller request of the latched command (10_state.md R43). -/
inductive SubStep where
  | cfg
  | inst
  | a
  | b
  | xfer
  deriving DecidableEq, Repr

/-- The command latch (10_state.md R43). -/
structure Latch where
  op : BitVec 4
  reg : Byte
  arg : Byte
  ldev : Device
  step : SubStep
  deriving DecidableEq, Repr

/-- The signaling mode of the configure and install records; the engine sends MASTER only (42_facade.md R151). -/
inductive BusMode where
  | master
  deriving DecidableEq, Repr

/-- A pull-up setting; the engine sends ENABLED only (42_facade.md R151). -/
inductive PullUp where
  | enabled
  deriving DecidableEq, Repr

/-- The configure record (40_session.md R118). -/
structure CfgRecord where
  mode : BusMode
  sdaPin : Byte
  sclPin : Byte
  sdaPullup : PullUp
  sclPullup : PullUp
  clkHz : Nat
  deriving DecidableEq, Repr

/-- The install record (40_session.md R119). -/
structure InstRecord where
  mode : BusMode
  rxBufLen : Nat
  txBufLen : Nat
  deriving DecidableEq, Repr

/-- A request to the Bus Controller (40_session.md R118-R120). -/
inductive Request where
  | config (chan : Byte) (cfg : CfgRecord)
  | install (chan : Byte) (inst : InstRecord)
  | submit (chan : Byte) (prims : List PrimWord) (timeoutMs : Nat)
  deriving DecidableEq, Repr

/-- The answer of a BcSubmit (40_session.md R107): the code, the primitives completed, the bytes read. Whether a STOP
follows a failed primitive is no part of it (70_reset_and_hazards.md R226). -/
structure Transfer where
  code : Word
  k : Nat
  rx : List Byte
  deriving DecidableEq, Repr

/-- An answer of the Bus Controller. -/
inductive Reply where
  /-- A BcConfig or BcInstall that is never answered (40_session.md R122). -/
  | silent
  /-- The code of a BcConfig or BcInstall. -/
  | code (c : Word)
  /-- The answer of a BcSubmit. -/
  | transfer (t : Transfer)
  deriving DecidableEq, Repr

/-- One entry of the request history (40_session.md R123). -/
structure Exchange where
  request : Request
  reply : Reply
  deriving DecidableEq, Repr

/-- The submission the Bus Controller is running or ran last, as far as the rules let a run see it
(40_session.md R107-R115, R123); not engine state (10_state.md R44). -/
structure Bus where
  /-- The answer in force for the submission, while it runs. -/
  plan : Option Transfer
  /-- Primitives completed. -/
  k : Nat
  /-- Bytes read. -/
  rx : List Byte
  /-- What went on the wire. -/
  wire : List WireEvent
  /-- The failure code; 0 while no primitive has failed. -/
  code : Word
  /-- The bus is held by this session: a START and no STOP; free where the spec does not say (logs 21, 22). -/
  held : Bool
  deriving DecidableEq, Repr

/-- A Host access to the host window: byte offset, width in bytes, value written (20_memory.md R52). -/
inductive Access where
  | read (offset width : Nat)
  | write (offset width : Nat) (value : Word)
  deriving DecidableEq, Repr

/-- What moves next (00_scope.md R17, 20_memory.md R63, 70_reset_and_hazards.md R210; log 2). -/
inductive Event where
  /-- The Host makes one access. -/
  | host (a : Access)
  /-- The Engine takes one step, if one is enabled. -/
  | engine
  /-- The Bus Controller runs one primitive word given to it directly (log 5). -/
  | prim (p : PrimWord)
  /-- The reset input is asserted. -/
  | resetOn
  /-- The reset input is released. -/
  | resetOff
  /-- A second Host or engine uses the channel. -/
  | foreign
  deriving DecidableEq, Repr

/-- A value a Host read returned. -/
structure HostRead where
  offset : Nat
  value : Word
  deriving DecidableEq, Repr

/-- The state of the whole machine. -/
structure State where
  /-- N_BUF (00_scope.md R11), fixed for a machine (log 1). -/
  nBuf : Nat
  status : Status
  device : Device
  /-- CODE (10_state.md R36). -/
  code : Word
  /-- RESULT16 (10_state.md R37). -/
  result16 : BitVec 16
  diag : Diag
  /-- TXBUF and RXBUF (10_state.md R39, R40). -/
  mem : Memory
  /-- CACHE_A (10_state.md R41). -/
  cacheA : Byte
  /-- CACHE_B (10_state.md R41). -/
  cacheB : Byte
  sess : Sess
  /-- PQ (10_state.md R42). -/
  pq : List PrimWord
  latch : Option Latch
  /-- A request of INIT was never answered (40_session.md R122). -/
  stuck : Bool
  /-- The reset input is asserted (70_reset_and_hazards.md R210). -/
  inReset : Bool
  /-- The faults the model has recorded, oldest first; never cleared, not by reset either (60_exceptions.md R188). -/
  faults : List Fault
  /-- The model fault record of the reset table: the faults recorded since the last reset, which empties it
  (70_reset_and_hazards.md R211; log 23). -/
  faultRecord : List Fault
  /-- The request history (40_session.md R123), oldest first. -/
  history : List Exchange
  bus : Bus
  /-- The model's own: the events still to come, next first (log 2). -/
  script : List Event
  /-- The model's own: the Bus Controller's answers supplied from outside, next first (log 3). -/
  answers : List Reply
  /-- The model's own: the values Host reads returned, oldest first (log 2). -/
  reads : List HostRead
  /-- The model's own: how many free values have been drawn (log 4). -/
  draws : Nat
  deriving DecidableEq, Repr

/-- STATUS at reset, 0x00000000 (70_reset_and_hazards.md R211). -/
def Status.zero : Status := ⟨false, false, false, .none, false, false, false⟩

/-- The Bus Controller with no submission begun (log 5). -/
def Bus.idle : Bus := ⟨none, 0, [], [], 0#32, false⟩

/-- The reset state of an engine with the given N_BUF (70_reset_and_hazards.md R211). -/
def State.resetWith (nBuf : Nat) : State where
  nBuf := nBuf
  status := Status.zero
  device := ⟨0#7, 0#8, 0#8, 0#8⟩
  code := 0#32
  result16 := 0#16
  diag := ⟨0#4, 0#8, 0#8⟩
  mem := []
  cacheA := 0#8
  cacheB := 0#8
  sess := .none
  pq := []
  latch := none
  stuck := false
  inReset := false
  faults := []
  faultRecord := []
  history := []
  bus := Bus.idle
  script := []
  answers := []
  reads := []
  draws := 0

/-- The machine right after reset. N_BUF is OPEN (00_scope.md R11); DESIGN CHOICE: the largest the spec admits
(log 1). Statements are made for every N_BUF. -/
def State.reset : State := State.resetWith Config.maxBuf

end Sys2Proof.Machine
end

