-- ==== Sys2Proof/Machine/Bus.lean ====
section
/-! DEFINITION. The Bus Controller as the rules give it: the contract of its answers (40_session.md R107-R110, R122), the
meaning of each primitive (R111-R115), and a submission run primitive by primitive (R107, R123). -/

namespace Sys2Proof.Machine

/-! ## The contract of an answer -/

/-- The word is a RD ACK or a RD NACK (30_encoding.md R91). -/
def isRead (p : PrimWord) : Bool :=
  match readPrim p with
  | .read _ => true
  | _ => false

/-- The number of RD words of a queue (R108). -/
def numReads (prims : List PrimWord) : Nat := prims.countP isRead

/-- The success contract (R108) and the failure contract (R109) on an answer to a queue. -/
def Transfer.legalFor (prims : List PrimWord) (t : Transfer) : Bool :=
  if t.code = 0#32 then decide (t.k = prims.length ∧ t.rx.length = numReads prims)
  else decide (t.k < prims.length)

/-- `count` free bytes from draw `n` on. -/
def freeRun (n count : Nat) : List Byte := (List.range count).map fun i => Config.freeByte (n + i)

/-- An answer drawn freely within the contract (R107-R109). -/
def freeTransfer (prims : List PrimWord) (n : Nat) : Transfer :=
  if Config.freeCode n = 0#32 then ⟨0#32, prims.length, freeRun n (numReads prims)⟩
  else ⟨Config.freeCode n, Config.freeIndex n % prims.length, Config.freeBytes n⟩

/-- What one primitive word answers when the Bus Controller is given it outside a submission (log 5). -/
def freePlan (n : Nat) : Transfer := ⟨Config.freeCode n, Config.freeIndex n, Config.freeBytes n⟩

/-- The Bus Controller's side with every part of it any value, and no answer in force (log 22). -/
def freeBus (n : Nat) : Bus :=
  ⟨none, Config.freeIndex n, Config.freeBytes n, Config.freeWire n, Config.freeCode n, Config.freeHeld n⟩

/-! ## One primitive
`n` is the draw a primitive's free values are taken from. -/

/-- A submission about to run, with the answer the oracle has drawn for it. -/
def Bus.begin (t : Transfer) : Bus := ⟨some t, 0, [], [], 0#32, false⟩

/-- The primitive at this index is the one the answer says fails (R109). -/
def Bus.failsHere (t : Transfer) (b : Bus) : Bool := decide (t.code ≠ 0#32) && decide (t.k = b.k)

/-- The failing primitive: it stands on the wire (R123), the code is reported, no later primitive runs, and whether a
STOP follows it is drawn (R109). That STOP releases the bus (R109, R112); with none drawn the spec does not say whether the
bus is held (91_not_in_source.md N14), so that is a free value (DESIGN CHOICE, safe, log 21). -/
def Bus.stopFailed (n : Nat) (t : Transfer) (ev : WireEvent) (b : Bus) : Bus :=
  { b with
    plan := none
    code := t.code
    wire := b.wire ++ ev :: (if Config.freeStop n then [.stop] else [])
    held := Config.freeHeld n && !Config.freeStop n }

/-- A primitive that ran. -/
def Bus.ran (ev : WireEvent) (b : Bus) : Bus := { b with k := b.k + 1, wire := b.wire ++ [ev] }

/-- START: a start condition, a repeated start if this session holds the bus (R111, R106). -/
def Bus.start (n : Nat) (t : Transfer) (b : Bus) : Bus :=
  let ev := if b.held then WireEvent.restart else WireEvent.start
  if b.failsHere t then b.stopFailed n t ev else { b.ran ev with held := true }

/-- STOP: a stop condition, releasing the bus and ending the submission (R112). -/
def Bus.stop (n : Nat) (t : Transfer) (b : Bus) : Bus :=
  if b.failsHere t then b.stopFailed n t .stop else { b.ran .stop with held := false, plan := none }

/-- WR: the byte is sent; a NACK fails the submission here, an ACK lets it go on (R113). -/
def Bus.write (d : Byte) (n : Nat) (t : Transfer) (b : Bus) : Bus :=
  if b.failsHere t then b.stopFailed n t (.write d) else b.ran (.write d)

/-- RD: one byte is read and becomes the next element of `rx`; ACK or NACK is sent after it (R114, R115). Where the
answer gives no byte for it, the byte is free (R109: `rx` is any list). -/
def Bus.read (nack : Bool) (n : Nat) (t : Transfer) (b : Bus) : Bus :=
  if b.failsHere t then b.stopFailed n t (.read nack)
  else { b.ran (.read nack) with rx := b.rx ++ [t.rx.getD b.rx.length (Config.freeByte n)] }

/-! ## Primitives on the state -/

/-- The state in which a primitive runs: with a submission in progress as it is; else one begins with a free answer
(log 5). -/
def State.withPlan (s : State) : State :=
  match s.bus.plan with
  | some _ => s
  | none => { s with bus := Bus.begin (freePlan s.draws), draws := s.draws + 1 }

/-- The answer in force, once `withPlan` has run. -/
def State.planInForce (s : State) : Transfer := s.bus.plan.getD (freePlan s.draws)

/-- One primitive: it changes the bus and takes one draw, for the free values it may use. -/
def State.onBus (f : Nat → Transfer → Bus → Bus) (s : State) : State :=
  { s.withPlan with
    bus := f s.withPlan.draws s.planInForce s.withPlan.bus
    draws := s.withPlan.draws + 1 }

/-- START on the bus (R111). -/
def State.busStart (s : State) : State := s.onBus fun n t b => b.start n t

/-- STOP on the bus (R112). -/
def State.busStop (s : State) : State := s.onBus fun n t b => b.stop n t

/-- WR on the bus (R113). -/
def State.busWrite (d : Byte) (s : State) : State := s.onBus fun n t b => b.write d n t

/-- RD ACK (`nack = false`, R114) or RD NACK (`nack = true`, R115) on the bus. -/
def State.busRead (nack : Bool) (s : State) : State := s.onBus fun n t b => b.read nack n t

/-! ## A submission -/

/-- One word of a queue, read as 30_encoding.md R91 says; the engine emits no reserved one (R90). -/
def State.runPrim (p : PrimWord) (s : State) : State :=
  match readPrim p with
  | .start => s.busStart
  | .stop => s.busStop
  | .write b _ => s.busWrite b
  | .read nack => s.busRead nack
  | .reserved => s

/-- The queue in the order appended; nothing runs after the first failure (R107, R109). -/
def State.runQueue : List PrimWord → State → State
  | [], s => s
  | p :: ps, s => if (s.runPrim p).bus.code ≠ 0#32 then s.runPrim p else State.runQueue ps (s.runPrim p)

/-- The whole submission under an answer; afterwards none is in progress. -/
def State.runSubmission (prims : List PrimWord) (t : Transfer) (s : State) : State :=
  let s' := State.runQueue prims { s with bus := Bus.begin t }
  { s' with bus := { s'.bus with plan := none } }

/-- The word a wire event stands for (30_encoding.md R89). -/
def WireEvent.word : WireEvent → PrimWord
  | .start => startWord
  | .restart => startWord
  | .stop => stopWord
  | .write b => wrWord b
  | .read false => rdAckWord
  | .read true => rdNackWord

/-- The wire trace of a submission answered `t` (R123); `stop`: a STOP follows the failed primitive. -/
def wireTrace (prims : List PrimWord) (t : Transfer) (stop : Bool) : List PrimWord :=
  if t.code = 0#32 then prims
  else prims.take (t.k + 1) ++ (if stop then [stopWord] else [])

end Sys2Proof.Machine
end

