-- ==== Sys2Proof/Machine/Flags.lean ====
section
/-! DEFINITION. The flag computations: STATUS as a word, its write-1-to-clear rule, what completion, acceptance and an
overrun write (10_state.md R24-R31, R46; 41_transport.md R125, R126). -/

namespace Sys2Proof.Machine

/-- The ERR field of an engine error (R27). -/
def EngineError.field : EngineError → BitVec 2
  | .none => 0#2
  | .illegal => 1#2
  | .size => 2#2

/-- The read value of STATUS (R31). -/
def Status.word (st : Status) : Word :=
  0#21 ++ BitVec.ofBool st.reinit ++ BitVec.ofBool st.inst ++ BitVec.ofBool st.ovr ++ 0#2 ++ st.err.field ++ 0#1
    ++ BitVec.ofBool st.fail ++ BitVec.ofBool st.done ++ BitVec.ofBool st.busy

/-- A Host write to STATUS: 1 clears DONE, OVR and REINIT; nothing else is writable (R31). -/
def Status.writeOneClear (v : Word) (st : Status) : Status :=
  { st with
    done := st.done && !v.getLsbD 1
    ovr := st.ovr && !v.getLsbD 8
    reinit := st.reinit && !v.getLsbD 10 }

/-- The flags completion writes (41_transport.md R126). -/
def Status.completed (code : Word) (err : EngineError) (st : Status) : Status :=
  { st with
    busy := false
    done := true
    fail := decide (code ≠ 0#32) || decide (err ≠ .none)
    err := err }

/-- The flags acceptance writes (41_transport.md R125). -/
def Status.accepted (st : Status) : Status := { st with busy := true, done := false }

/-- A dropped write sets OVR (10_state.md R28). -/
def Status.overrun (st : Status) : Status := { st with ovr := true }

end Sys2Proof.Machine
end

