-- ==== Sys2Proof/Machine/Ops.lean ====
section
/-! DEFINITION. The named operations: memory, the byte buffers, completion (the one operation that records an outcome, which is
this hardware's exception entry: 60_exceptions.md R180, R192), acceptance, reset, the requests to the Bus
Controller and the bus session. -/

namespace Sys2Proof.Machine

/-- The result of an operation that can stop. -/
abbrev Result (α : Type) := Host.Outcome α Fault Refusal

/-- Go on with a next value; a stop stays a stop. -/
def andThen {α β : Type} (r : Result α) (f : α → Result β) : Result β :=
  match r with
  | .next a => f a
  | .fault e => .fault e
  | .refused e => .refused e

/-! ## Memory -/

/-- What an unlisted buffer byte reads as: the reset contents of TXBUF and RXBUF (70_reset_and_hazards.md R211). -/
def Memory.unlisted : Byte := 0x00#8

/-- The canonical form: addresses strictly rising, no entry equal to an unlisted byte. -/
def Memory.wf : Memory → Bool
  | [] => true
  | (a, v) :: m => decide (v ≠ Memory.unlisted) && m.all (fun c => decide (a < c.1)) && Memory.wf m

/-- One byte. -/
def Memory.read : Memory → Nat → Byte
  | [], _ => Memory.unlisted
  | (b, v) :: m, a => if a = b then v else Memory.read m a

/-- Write one byte, keeping the canonical form. -/
def Memory.write : Memory → Nat → Byte → Memory
  | [], a, v => if v = Memory.unlisted then [] else [(a, v)]
  | (b, w) :: m, a, v =>
    if a < b then (if v = Memory.unlisted then (b, w) :: m else (a, v) :: (b, w) :: m)
    else if a = b then (if v = Memory.unlisted then m else (a, v) :: m)
    else (b, w) :: Memory.write m a v

/-- Write bytes at rising addresses. -/
def Memory.writeBytes : Memory → Nat → List Byte → Memory
  | m, _, [] => m
  | m, a, v :: vs => Memory.writeBytes (Memory.write m a v) (a + 1) vs

/-- The window offset of TXBUF[0] (10_state.md R22). -/
def txBase : Nat := 0x100

/-- The window offset of RXBUF[0] (10_state.md R22). -/
def rxBase : Nat := 0x200

/-- TXBUF[i] as a read gives it: 0 at index N_BUF and above (20_memory.md R57). -/
def State.txByte (s : State) (i : Nat) : Byte := if i < s.nBuf then Memory.read s.mem (txBase + i) else 0#8

/-- RXBUF[i] as stored: 0 at index N_BUF and above (20_memory.md R57). -/
def State.rxByte (s : State) (i : Nat) : Byte := if i < s.nBuf then Memory.read s.mem (rxBase + i) else 0#8

/-- A Host write of TXBUF[i]: ignored at index N_BUF and above (20_memory.md R57). -/
def State.setTx (i : Nat) (v : Byte) (s : State) : State :=
  if i < s.nBuf then { s with mem := Memory.write s.mem (txBase + i) v } else s

/-- Received bytes into RXBUF[0], RXBUF[1], ... (41_transport.md R136). -/
def State.storeRx (bytes : List Byte) (s : State) : State :=
  { s with mem := Memory.writeBytes s.mem rxBase bytes }

/-- RXBUF[0..n) take `any` value, a free draw per byte (41_transport.md R137). -/
def State.spoilRx (n : Nat) (s : State) : State :=
  { s with mem := Memory.writeBytes s.mem rxBase (freeRun s.draws n), draws := s.draws + n }

/-- RESULT16 takes `any` value (42_facade.md R164). -/
def State.spoilResult (s : State) : State :=
  { s with result16 := Config.freeHalf s.draws, draws := s.draws + 1 }

/-- A byte read into a cache slot (42_facade.md R159). -/
def State.setCache (slot : Slot) (v : Byte) (s : State) : State :=
  match slot with
  | .portA => { s with cacheA := v }
  | .portB => { s with cacheB := v }

/-- The DIAG write of a failed façade command (42_facade.md R167). -/
def State.writeDiag (op : BitVec 4) (reg value : Byte) (s : State) : State := { s with diag := ⟨op, reg, value⟩ }

/-! ## Completion and acceptance -/

/-- Completion: every command ends with exactly one call (41_transport.md R126). -/
def State.complete (code : Word) (err : EngineError) (s : State) : State :=
  { s with
    code := if err = .none then code else 0#32
    status := s.status.completed code err
    latch := none }

/-- Completion of a façade command by a Bus Controller code: DIAG is written if it is not 0 (42_facade.md R167). -/
def State.completeFacade (code : Word) (op : BitVec 4) (reg value : Byte) (s : State) : State :=
  if code ≠ 0#32 then (s.writeDiag op reg value).complete code .none else s.complete 0#32 .none

/-- Acceptance of a command that needs the Bus Controller (41_transport.md R125). -/
def State.accept (op : BitVec 4) (reg arg : Byte) (step : SubStep) (s : State) : State :=
  { s with status := s.status.accepted, latch := some ⟨op, reg, arg, s.device, step⟩ }

/-- The model records a fault (60_exceptions.md R188): among the faults that are never cleared, and in the record that
reset empties (log 23). -/
def State.recordFault (f : Fault) (s : State) : State :=
  { s with faults := s.faults ++ [f], faultRecord := s.faultRecord ++ [f] }

/-- INIT accepted with INST = 1: REINIT is set and the model's fault recorded (42_facade.md R155). -/
def State.markReinit (s : State) : State :=
  if s.status.inst then
    { s with status := { s.status with reinit := true } }.recordFault .reinitUndefined
  else s

/-- The next sub-step of a command of two requests (10_state.md R43). -/
def State.toSubStep (l : Latch) (step : SubStep) (s : State) : State :=
  { s with latch := some { l with step := step } }

/-- Run an Engine step of the latched command. -/
def State.withLatch (s : State) (f : Latch → Result State) : Result State :=
  match s.latch with
  | none => .fault .noCommandLatched
  | some l => f l

/-- Run the single Engine step of a command of one request, STEP = XFER (10_state.md R43). -/
def State.withXfer (s : State) (f : Latch → Result State) : Result State :=
  s.withLatch fun l => if l.step = .xfer then f l else .fault .latchInconsistent

/-- The command in progress sends a BcSubmit as its next request (10_state.md R43), which a reset may catch
unanswered. -/
def State.submitPending (s : State) : Bool :=
  match s.latch with
  | none => false
  | some l => decide (l.step = .xfer ∨ l.step = .a ∨ l.step = .b)

/-- The Bus Controller's side after a reset. Reset does not reach it (70_reset_and_hazards.md R212), so it stays; but a
reset during a BcSubmit leaves the wire at any value (93_implementation_defined.md U18), a START with no STOP among them.
In the model a BcSubmit is one step, so the reset counts as during it whenever the command in progress is about to send
one (DEDUCED, log 22). -/
def State.busAfterReset (s : State) : Bus := if s.submitPending then freeBus s.draws else s.bus

/-- Asserting the reset input: every piece of engine state to its reset value, a command in progress ended without
a completion (70_reset_and_hazards.md R210, R211). N_BUF, the history of requests already answered, and the model's own
fields stay; the Bus Controller's side is as `busAfterReset` says. The record of R211's table is emptied, the faults
themselves are never cleared (60_exceptions.md R188; log 23). -/
def State.assertReset (s : State) : State :=
  { State.resetWith s.nBuf with
    inReset := true
    faults := s.faults
    history := s.history
    bus := s.busAfterReset
    script := s.script
    answers := s.answers
    reads := s.reads
    draws := if s.submitPending then s.draws + 1 else s.draws }

/-! ## Requests to the Bus Controller -/

/-- The supplied answer leaves the list; a free one advances the draw counter. -/
def State.takeReply (n : Nat) (s : State) : State :=
  { s with
    answers := s.answers.tail
    draws := if s.answers = [] then s.draws + n else s.draws }

/-- One more entry of the request history (40_session.md R123). -/
def State.record (req : Request) (rep : Reply) (s : State) : State :=
  { s with history := s.history ++ [⟨req, rep⟩] }

/-- The answer the next BcSubmit of this queue gets: the one supplied, if it keeps the contract; with none supplied,
a free one within it (40_session.md R107-R109). -/
def State.nextTransfer (prims : List PrimWord) (s : State) : Option Transfer :=
  match s.answers with
  | [] => some (freeTransfer prims s.draws)
  | .transfer t :: _ => if t.legalFor prims then some t else none
  | .silent :: _ => none
  | .code _ :: _ => none

/-- The answer the next BcConfig or BcInstall gets, if the one supplied is of its kind: a code, or `none` for
never answered (40_session.md R118, R119, R122). -/
def State.nextCode (s : State) : Option (Option Word) :=
  match s.answers with
  | [] => some (if Config.freeSilent s.draws then none else some (Config.freeCode s.draws))
  | .silent :: _ => some none
  | .code c :: _ => some (some c)
  | .transfer _ :: _ => none

/-- The history's form of an answer to BcConfig or BcInstall. -/
def Reply.ofCode : Option Word → Reply
  | none => .silent
  | some c => .code c

/-- The state after a BcSubmit answered `t`. -/
def State.submitted (chan : Byte) (prims : List PrimWord) (t : Transfer) (s : State) : State :=
  ((s.takeReply (numReads prims + 1)).runSubmission prims t).record
    (.submit chan prims Config.timeoutMs) (.transfer t)

/-- BcSubmit (40_session.md R120). -/
def bcSubmit (chan : Byte) (prims : List PrimWord) (s : State) : Result (Transfer × State) :=
  match s.nextTransfer prims with
  | none => .refused .replyBreaksContract
  | some t => .next (t, s.submitted chan prims t)

/-- BcConfig and BcInstall (40_session.md R118, R119): the code, or `none` for never answered. -/
def bcAsk (req : Request) (s : State) : Result (Option Word × State) :=
  match s.nextCode with
  | none => .refused .replyBreaksContract
  | some c => .next (c, (s.takeReply 1).record req (Reply.ofCode c))

/-! ## The bus session -/

/-- Q_MAX (00_scope.md R12). -/
def State.qMax (s : State) : Nat := s.nBuf + 6

/-- SESS_OPEN (40_session.md R101). -/
def sessOpen (s : State) : Result State :=
  if s.sess = .none then .next { s with sess := .opened, pq := [startWord] } else .fault .sessionNotFree

/-- SESS_APPEND (40_session.md R102). -/
def sessAppend (p : PrimWord) (s : State) : Result State :=
  if s.sess = .opened then
    if s.pq.length < s.qMax then .next { s with pq := s.pq ++ [p] } else .fault .queueFull
  else .fault .sessionNotOpen

/-- SESS_APPEND of each word in turn. -/
def sessAppendAll : List PrimWord → State → Result State
  | [], s => .next s
  | p :: ps, s => andThen (sessAppend p s) (sessAppendAll ps)

/-- The session is gone, whatever the answer (40_session.md R104). -/
def State.release (s : State) : State := { s with sess := .none, pq := [] }

/-- SESS_EXECUTE (40_session.md R103): append STOP, submit once, release. -/
def sessExecute (chan : Byte) (s : State) : Result (Transfer × State) :=
  if s.sess = .opened then
    andThen (bcSubmit chan (s.pq ++ [stopWord]) { s with sess := .submitted, pq := s.pq ++ [stopWord] })
      fun r => .next (r.1, r.2.release)
  else .fault .sessionNotOpen

/-- One session from open to release: the words of `body` between its START and its STOP (40_session.md R100). -/
def transact (chan : Byte) (body : List PrimWord) (s : State) : Result (Transfer × State) :=
  andThen (sessOpen s) fun s1 => andThen (sessAppendAll body s1) (sessExecute chan)

end Sys2Proof.Machine
end

