-- ==== Sys2Proof/Machine/Operands.lean ====
section
/-! DEFINITION. The operand forms: the registers as words, the address bytes, the payload, the queue bodies of the framer and
the records of INIT (10_state.md R35, R38; 30_encoding.md R87; 41_transport.md R129, R134; 42_facade.md R151, R152). -/

namespace Sys2Proof.Machine

/-- The read value of DEVICE; bit 7 reads 0 (10_state.md R32-R35). -/
def Device.word (d : Device) : Word := d.scl ++ d.sda ++ d.chan ++ 0#1 ++ d.addr

/-- A word written to DEVICE; bit 7 is ignored (10_state.md R35). -/
def Device.ofWord (v : Word) : Device :=
  ⟨v.extractLsb' 0 7, v.extractLsb' 8 8, v.extractLsb' 16 8, v.extractLsb' 24 8⟩

/-- The read value of DIAG (10_state.md R38). -/
def Diag.word (d : Diag) : Word := 0#8 ++ d.value ++ d.reg ++ 0#4 ++ d.op

/-- The command word a latch was filled from (10_state.md R43, 30_encoding.md R75). -/
def Latch.word (l : Latch) : Word := commandWord l.op l.reg l.arg

/-- AW, the address byte of the write direction (30_encoding.md R87). -/
def addrWrite (addr : BitVec 7) : Byte := (addr.setWidth 8 <<< 1) ||| 0#8

/-- AR, the address byte of the read direction (30_encoding.md R87). -/
def addrRead (addr : BitVec 7) : Byte := (addr.setWidth 8 <<< 1) ||| 1#8

/-- A little-endian word of four bytes (20_memory.md R56). -/
def wordOfBytes (b0 b1 b2 b3 : Byte) : Word := b3 ++ b2 ++ b1 ++ b0

/-- Byte `j` of a word, least significant first (20_memory.md R56). -/
def byteOfWord (v : Word) (j : Nat) : Byte := v.extractLsb' (8 * j) 8

/-- The payload TXBUF[0..n) of a WRITE_REG (41_transport.md R128). -/
def State.payload (s : State) (n : Nat) : List Byte := (List.range n).map s.txByte

/-- A register write between START and STOP: address byte, register byte, payload (41_transport.md R129). -/
def writeBody (addr : BitVec 7) (reg : Byte) (bytes : List Byte) : List PrimWord :=
  wrWord (addrWrite addr) :: wrWord reg :: bytes.map wrWord

/-- A register read between START and STOP, for n ≥ 1: address byte, register byte, repeated start, address byte,
n - 1 RD ACK, one RD NACK (41_transport.md R134). -/
def readBody (addr : BitVec 7) (reg : Byte) (n : Nat) : List PrimWord :=
  [wrWord (addrWrite addr), wrWord reg, startWord, wrWord (addrRead addr)]
    ++ (List.replicate (n - 1) rdAckWord ++ [rdNackWord])

/-- The whole queue of a session (40_session.md R101-R103). -/
def queueOf (body : List PrimWord) : List PrimWord := startWord :: body ++ [stopWord]

/-- The configure record of INIT (42_facade.md R151). -/
def cfgRecord (d : Device) : CfgRecord := ⟨.master, d.sda, d.scl, .enabled, .enabled, Config.busFreqHz⟩

/-- The install record of INIT (42_facade.md R152). -/
def instRecord : InstRecord := ⟨.master, 0, 0⟩

/-- The port-value register of a port (20_memory.md R59, 42_facade.md R161). -/
def portRegister : Slot → Byte
  | .portA => 0x12#8
  | .portB => 0x13#8

/-- `portA | (portB << 8)` at 16 bits (42_facade.md R162). -/
def combinePorts (a b : Byte) : BitVec 16 := a.setWidth 16 ||| (b.setWidth 16 <<< 8)

end Sys2Proof.Machine
end

