-- ==== Sys2Proof/Machine/Transport.lean ====
section
/-! DEFINITION. The register framer: WRITE_REG and READ_REG (41_transport.md).
A command's meaning has two parts, chosen by STATUS.BUSY: with BUSY = 0 the Host's CMD write is accepted (R125),
with BUSY = 1 the Engine takes the latched command's next step. A CMD write with BUSY = 1 never reaches a meaning:
it is dropped (Machine/Window.lean). -/

namespace Sys2Proof.Machine

/-- The Engine step of WRITE_REG (R128). -/
def writeRegStep (reg : Byte) (n : Nat) (s : State) : Result State :=
  s.withXfer fun l =>
    andThen (transact l.ldev.chan (writeBody l.ldev.addr reg (s.payload n)) s) fun r =>
      .next (r.2.complete r.1.code .none)

/-- WRITE_REG (R125, R128-R131, R183). -/
def execWriteReg (reg : Byte) (n : Nat) (s : State) : Result State :=
  if s.status.busy then writeRegStep reg n s
  else if s.nBuf < n then .next (s.complete 0#32 .size)
  else .next (s.accept 2#4 reg (BitVec.ofNat 8 n) .xfer)

/-- What a register read of n bytes leaves in RXBUF: the bytes read, or `any` (R136, R137). -/
def State.landRead (n : Nat) (t : Transfer) (s : State) : State :=
  if t.code = 0#32 then s.storeRx (t.rx.take n) else s.spoilRx n

/-- The Engine step of READ_REG, taken only for n ≥ 1 (R132). -/
def readRegStep (reg : Byte) (n : Nat) (s : State) : Result State :=
  s.withXfer fun l =>
    if n = 0 then .fault .latchInconsistent
    else
      andThen (transact l.ldev.chan (readBody l.ldev.addr reg n) s) fun r =>
        .next ((r.2.landRead n r.1).complete r.1.code .none)

/-- READ_REG (R125, R132-R137, R183); size 0 completes at once with no bus activity (R133). -/
def execReadReg (reg : Byte) (n : Nat) (s : State) : Result State :=
  if s.status.busy then readRegStep reg n s
  else if s.nBuf < n then .next (s.complete 0#32 .size)
  else if n = 0 then .next (s.complete 0#32 .none)
  else .next (s.accept 3#4 reg (BitVec.ofNat 8 n) .xfer)

end Sys2Proof.Machine
end

