-- ==== Sys2Proof/Machine/Facade.lean ====
section
/-! DEFINITION. The façade commands: INIT, WRITE_CONFIG, READ_PORT, READ_BOTH (42_facade.md). As in Machine/Transport.lean, STATUS.BUSY
chooses between acceptance and the next Engine step. -/

namespace Sys2Proof.Machine

/-! ## INIT -/

/-- The answer of INIT's BcConfig: unanswered leaves the engine stuck, a failure completes INIT, success goes on to
BcInstall (R150, R153; 40_session.md R122). -/
def initAfterConfig (l : Latch) (c : Option Word) (s : State) : State :=
  match c with
  | none => { s with stuck := true }
  | some code => if code ≠ 0#32 then s.completeFacade code 1#4 0#8 0#8 else s.toSubStep l .inst

/-- The answer of INIT's BcInstall (R150, R153, R154). -/
def initAfterInstall (c : Option Word) (s : State) : State :=
  match c with
  | none => { s with stuck := true }
  | some code =>
    if code ≠ 0#32 then s.completeFacade code 1#4 0#8 0#8
    else { s with status := { s.status with inst := true } }.complete 0#32 .none

/-- An Engine step of INIT (R150). -/
def initStep (s : State) : Result State :=
  s.withLatch fun l =>
    match l.step with
    | .cfg =>
      andThen (bcAsk (.config l.ldev.chan (cfgRecord l.ldev)) s) fun r => .next (initAfterConfig l r.1 r.2)
    | .inst =>
      andThen (bcAsk (.install l.ldev.chan instRecord) s) fun r => .next (initAfterInstall r.1 r.2)
    | .a => .fault .latchInconsistent
    | .b => .fault .latchInconsistent
    | .xfer => .fault .latchInconsistent

/-- INIT (R150-R155). -/
def execInit (s : State) : Result State :=
  if s.status.busy then initStep s else .next (s.markReinit.accept 1#4 0#8 0#8 .cfg)

/-! ## WRITE_CONFIG -/

/-- The Engine step of WRITE_CONFIG (R156, R167). -/
def writeConfigStep (reg v : Byte) (s : State) : Result State :=
  s.withXfer fun l =>
    andThen (transact l.ldev.chan (writeBody l.ldev.addr reg [v]) s) fun r =>
      .next (r.2.completeFacade r.1.code 4#4 reg v)

/-- WRITE_CONFIG (R156, R157). -/
def execWriteConfig (reg v : Byte) (s : State) : Result State :=
  if s.status.busy then writeConfigStep reg v s else .next (s.accept 4#4 reg v .xfer)

/-! ## READ_PORT and READ_BOTH -/

/-- What a port read leaves: RXBUF[0] and the cache slot on success, RXBUF[0] `any` and the cache unchanged on
failure (R158-R160). -/
def State.landPort (slot : Slot) (t : Transfer) (s : State) : State :=
  if t.code = 0#32 then (s.landRead 1 t).setCache slot (t.rx.getD 0 0#8) else s.landRead 1 t

/-- READ_PORT_BODY (R158). -/
def readPortBody (reg : Byte) (slot : Slot) (d : Device) (s : State) : Result (Transfer × State) :=
  andThen (transact d.chan (readBody d.addr reg 1) s) fun r => .next (r.1, r.2.landPort slot r.1)

/-- The Engine step of READ_PORT (R158, R167). -/
def readPortStep (reg : Byte) (slot : Slot) (s : State) : Result State :=
  s.withXfer fun l =>
    andThen (readPortBody reg slot l.ldev s) fun r => .next (r.2.completeFacade r.1.code 5#4 reg 0#8)

/-- READ_PORT (R158-R160). -/
def execReadPort (reg : Byte) (slot : Slot) (s : State) : Result State :=
  if s.status.busy then readPortStep reg slot s else .next (s.accept 5#4 reg (slotArg slot) .xfer)

/-- READ_BOTH after the port A read: a failure ends it, success goes on to port B (R161, R163). -/
def readBothAfterA (l : Latch) (t : Transfer) (s : State) : State :=
  if t.code ≠ 0#32 then s.spoilResult.completeFacade t.code 6#4 (portRegister .portA) 0#8 else s.toSubStep l .b

/-- READ_BOTH after the port B read: RESULT16 is the combination, or `any` on failure (R161, R162, R164). -/
def readBothAfterB (t : Transfer) (s : State) : State :=
  if t.code ≠ 0#32 then s.spoilResult.completeFacade t.code 6#4 (portRegister .portB) 0#8
  else { s with result16 := combinePorts s.cacheA s.cacheB }.complete 0#32 .none

/-- An Engine step of READ_BOTH (R161). -/
def readBothStep (s : State) : Result State :=
  s.withLatch fun l =>
    match l.step with
    | .a =>
      andThen (readPortBody (portRegister .portA) .portA l.ldev s) fun r => .next (readBothAfterA l r.1 r.2)
    | .b =>
      andThen (readPortBody (portRegister .portB) .portB l.ldev s) fun r => .next (readBothAfterB r.1 r.2)
    | .cfg => .fault .latchInconsistent
    | .inst => .fault .latchInconsistent
    | .xfer => .fault .latchInconsistent

/-- READ_BOTH (R161-R165). -/
def execReadBoth (s : State) : Result State :=
  if s.status.busy then readBothStep s else .next (s.accept 6#4 0#8 0#8 .a)

end Sys2Proof.Machine
end

