-- ==== Sys2Proof/Machine/Primitives.lean ====
section
/-! DEFINITION. The five primitives as instructions of the Bus Controller (40_session.md R111-R115). A submission runs them with the
same operations (Machine/Bus.lean, `State.runPrim`). -/

namespace Sys2Proof.Machine

/-- START (R111). -/
def execStart (s : State) : Result State := .next s.busStart

/-- STOP (R112). -/
def execStop (s : State) : Result State := .next s.busStop

/-- WR (R113). -/
def execWr (data : Byte) (s : State) : Result State := .next (s.busWrite data)

/-- RD ACK (R114). -/
def execRdAck (s : State) : Result State := .next (s.busRead false)

/-- RD NACK (R115). -/
def execRdNack (s : State) : Result State := .next (s.busRead true)

end Sys2Proof.Machine
end

