-- ==== Sys2Proof/Machine/Dispatch.lean ====
section
/-! DEFINITION. The dispatch: one arm per constructor of Instr. A command with STATUS.BUSY = 0 is accepted, with STATUS.BUSY = 1
takes its next Engine step; a primitive is run by the Bus Controller. -/

namespace Sys2Proof.Machine

def exec (i : Instr) (s : State) : Host.Outcome State Fault Refusal :=
  match i with
  | .init => Sys2Proof.Machine.execInit s
  | .writeReg reg n => Sys2Proof.Machine.execWriteReg reg n s
  | .readReg reg n => Sys2Proof.Machine.execReadReg reg n s
  | .writeConfig reg v => Sys2Proof.Machine.execWriteConfig reg v s
  | .readPort reg slot => Sys2Proof.Machine.execReadPort reg slot s
  | .readBoth => Sys2Proof.Machine.execReadBoth s
  | .start => Sys2Proof.Machine.execStart s
  | .stop => Sys2Proof.Machine.execStop s
  | .wr data => Sys2Proof.Machine.execWr data s
  | .rdAck => Sys2Proof.Machine.execRdAck s
  | .rdNack => Sys2Proof.Machine.execRdNack s

end Sys2Proof.Machine
end

