-- ==== Sys2Proof/Machine/Window.lean ====
section
/-! DEFINITION. The host window (20_memory.md) and the three movers: a Host access, an Engine step, a primitive word given to the
Bus Controller. -/

namespace Sys2Proof.Machine

/-! ## Reads -/

/-- The size of the register read in progress, 0 if none is: SIZE for READ_REG, 1 for READ_PORT and for each read of
READ_BOTH (20_memory.md R65). -/
def State.readInProgress (s : State) : Nat :=
  match s.latch with
  | none => 0
  | some l => if l.op = 3#4 then l.arg.toNat else if l.op = 5#4 ∨ l.op = 6#4 then 1 else 0

/-- RXBUF[i] as the Host sees it: `any` while a read that covers it is in progress (20_memory.md R65). -/
def State.rxSeen (s : State) (i : Nat) : Byte :=
  if i < s.readInProgress ∧ i < s.nBuf then Config.freeByte (s.draws + i % 4) else s.rxByte i

/-- RESULT as the Host sees it: RESULT16 is `any` while a READ_BOTH is in progress (20_memory.md R65); bits 31:16
read 0 (10_state.md R37). -/
def State.resultSeen (s : State) : Word :=
  match s.latch with
  | none => 0#16 ++ s.result16
  | some l => if l.op = 6#4 then 0#16 ++ Config.freeHalf s.draws else 0#16 ++ s.result16

/-- The TXBUF word at byte index `i` (20_memory.md R56, R57). -/
def State.txWord (s : State) (i : Nat) : Word :=
  wordOfBytes (s.txByte i) (s.txByte (i + 1)) (s.txByte (i + 2)) (s.txByte (i + 3))

/-- The RXBUF word at byte index `i` (20_memory.md R56, R57, R65). -/
def State.rxWord (s : State) (i : Nat) : Word :=
  wordOfBytes (s.rxSeen i) (s.rxSeen (i + 1)) (s.rxSeen (i + 2)) (s.rxSeen (i + 3))

/-- What a read of an aligned offset in the window returns (10_state.md R22, 20_memory.md R53). -/
def State.windowRead (off : Nat) (s : State) : Word :=
  if off = 0x004 then s.status.word
  else if off = 0x008 then s.device.word
  else if off = 0x00C then s.code
  else if off = 0x010 then s.resultSeen
  else if off = 0x014 then s.diag.word
  else if 0x100 ≤ off ∧ off < 0x200 then s.txWord (off - 0x100)
  else if 0x200 ≤ off ∧ off < 0x300 then s.rxWord (off - 0x200)
  else 0#32

/-- A Host read: the value goes to the Host, nothing of the engine changes (20_memory.md R54); four draws cover the
`any` bytes it may return. -/
def State.hostRead (off : Nat) (s : State) : State :=
  { s with reads := s.reads ++ [⟨off, s.windowRead off⟩], draws := s.draws + 4 }

/-! ## Writes -/

/-- A write dropped because STATUS.BUSY = 1 (60_exceptions.md R186). -/
def State.dropWrite (s : State) : State := { s with status := s.status.overrun }

/-- The four bytes of a TXBUF word (20_memory.md R56, R57). -/
def State.setTxWord (i : Nat) (v : Word) (s : State) : State :=
  (((s.setTx i (byteOfWord v 0)).setTx (i + 1) (byteOfWord v 1)).setTx (i + 2) (byteOfWord v 2)).setTx (i + 3)
    (byteOfWord v 3)

/-- A Host write to CMD: the checks in the order of 60_exceptions.md R190 (41_transport.md R125). -/
def issue (w : Word) (s : State) : Result State :=
  if s.status.busy then .next s.dropWrite
  else
    match decodeCommand w with
    | .error _ => .next (s.complete 0#32 .illegal)
    | .ok i => exec i s

/-- A Host write to an aligned offset of the window other than CMD (10_state.md R22, 20_memory.md R53, R55). -/
def State.windowWrite (off : Nat) (v : Word) (s : State) : State :=
  if off = 0x004 then { s with status := s.status.writeOneClear v }
  else if off = 0x008 then if s.status.busy then s.dropWrite else { s with device := Device.ofWord v }
  else if 0x100 ≤ off ∧ off < 0x200 then if s.status.busy then s.dropWrite else s.setTxWord (off - 0x100) v
  else s

/-- A Host write; while reset is asserted it has no effect (70_reset_and_hazards.md R210). -/
def hostWrite (off : Nat) (v : Word) (s : State) : Result State :=
  if s.inReset then .next s else if off = 0 then issue v s else .next (s.windowWrite off v)

/-- The offset of an access. -/
def Access.offset : Access → Nat
  | .read off _ => off
  | .write off _ _ => off

/-- The width of an access in bytes. -/
def Access.width : Access → Nat
  | .read _ w => w
  | .write _ w _ => w

/-- A Host access: refused unless it is an aligned 4-byte access in the window (60_exceptions.md R189). -/
def hostAccess (a : Access) (s : State) : Result State :=
  if a.width ≠ 4 then .refused .badWidth
  else if a.offset % 4 ≠ 0 then .refused .misaligned
  else if Config.windowBytes ≤ a.offset then .refused .outsideWindow
  else
    match a with
    | .read off _ => .next (s.hostRead off)
    | .write off _ v => hostWrite off v s

/-- `ISSUE`: the Host writes a command word to CMD (30_encoding.md R94). -/
def Access.issueWord (w : Word) : Access := .write 0x000 4 w

/-- `CLEAR`: the Host clears DONE, OVR and REINIT (30_encoding.md R94). -/
def Access.clear : Access := .write 0x004 4 0x00000502#32

/-! ## The Engine and the Bus Controller -/

/-- One Engine step of the latched command; while idle or stuck none is enabled and nothing happens
(60_exceptions.md R200, 40_session.md R122). -/
def engineTurn (s : State) : Result State :=
  if s.status.busy && !s.stuck then
    match s.latch with
    | none => .fault .noCommandLatched
    | some l =>
      match decodeCommand l.word with
      | .error _ => .fault .latchInconsistent
      | .ok i => exec i s
  else .next s

/-- The Bus Controller is given one primitive word; a word that is none of the five forms is refused
(30_encoding.md R90, 93_implementation_defined.md U17). -/
def primTurn (p : PrimWord) (s : State) : Result State :=
  match decodePrim p with
  | .error _ => .refused .reservedPrimitive
  | .ok i => exec i s

/-- One event (00_scope.md R17). -/
def runEvent (e : Event) (s : State) : Result State :=
  match e with
  | .host a => hostAccess a s
  | .engine => engineTurn s
  | .prim p => primTurn p s
  | .resetOn => .next s.assertReset
  | .resetOff => .next { s with inReset := false }
  | .foreign => .refused .sharedChannel

/-- An idle engine and Bus Controller, out of reset: the condition under which a command word written to CMD, or a
primitive word given to the Bus Controller, is the next thing to run. -/
def State.readied (s : State) : State :=
  { s with
    status := { s.status with busy := false }
    latch := none
    sess := .none
    pq := []
    stuck := false
    inReset := false
    bus := Bus.idle }

end Sys2Proof.Machine
end

