-- ==== Sys2Proof/Machine/Step.lean ====
section
/-! DEFINITION. One step of the machine (00_scope.md R17, 20_memory.md R63), and a word placed where the next step takes it. -/

namespace Sys2Proof.Machine

/-- One step: the next event of the script; with none left the Engine moves if it can (log 2). -/
def step (s : State) : Host.Outcome State Fault Refusal :=
  match s.script with
  | [] => engineTurn s
  | e :: rest => runEvent e { s with script := rest }

/-- The state with one instruction word as the next thing to run: a 32-bit word as the Host's CMD write, a 16-bit
word as the Bus Controller's primitive, with the engine ready for it (log 6). -/
def State.withFetchWord (s : State) (nbits w : Nat) : State :=
  if nbits = 16 then { s.readied with script := .prim (BitVec.ofNat 16 w) :: s.script }
  else { s.readied with script := .host (Access.issueWord (BitVec.ofNat 32 w)) :: s.script }

end Sys2Proof.Machine
end

