-- ==== Sys2Proof/Safety.lean ====
section
/-! DEFINITION. What claims are stated in terms of: the invariant of the machine (10_state.md R45), a final state, the observation of
a run (70_reset_and_hazards.md R226), and a safe run. -/

namespace Sys2Proof.Machine

/-- The window offset is an existing byte of TXBUF or RXBUF (10_state.md R39, R40). -/
def inBuffers (nBuf a : Nat) : Prop :=
  (txBase ≤ a ∧ a < txBase + nBuf) ∨ (rxBase ≤ a ∧ a < rxBase + nBuf)

/-- The latch holds a command that needs the Bus Controller, at a sub-step of that command (10_state.md R43;
41_transport.md R125). -/
def Latch.fits (nBuf : Nat) (l : Latch) : Bool :=
  match decodeCommand l.word with
  | .ok .init => decide (l.step = .cfg ∨ l.step = .inst)
  | .ok .readBoth => decide (l.step = .a ∨ l.step = .b)
  | .ok (.writeReg _ n) => decide (l.step = .xfer ∧ n ≤ nBuf)
  | .ok (.readReg _ n) => decide (l.step = .xfer ∧ 1 ≤ n ∧ n ≤ nBuf)
  | .ok (.writeConfig _ _) => decide (l.step = .xfer)
  | .ok (.readPort _ _) => decide (l.step = .xfer)
  | .ok .start => false
  | .ok .stop => false
  | .ok (.wr _) => false
  | .ok .rdAck => false
  | .ok .rdNack => false
  | .error _ => false

/-- The invariant every step keeps. -/
structure State.Inv (s : State) : Prop where
  /-- N_BUF is in its range (00_scope.md R11). -/
  nBuf_range : 1 ≤ s.nBuf ∧ s.nBuf ≤ 255
  /-- The memory is canonical. -/
  mem_wf : Memory.wf s.mem = true
  /-- Only existing buffer bytes are stored (20_memory.md R57). -/
  mem_inBuffers : ∀ c ∈ s.mem, inBuffers s.nBuf c.1
  /-- BUSY = 1 exactly while a command is latched (10_state.md R43, R45). -/
  busy_latch : s.status.busy = s.latch.isSome
  /-- The latched command is one that needs the Bus Controller. -/
  latch_fits : ∀ l, s.latch = some l → l.fits s.nBuf = true
  /-- No session outlives its step (40_session.md R100, R103, R104). -/
  sess_none : s.sess = .none ∧ s.pq = []
  /-- STATUS.ERR ≠ 0 implies FAIL = 1 (10_state.md R45). -/
  err_fail : s.status.err ≠ .none → s.status.fail = true
  /-- CODE ≠ 0 implies FAIL = 1 and ERR = 0 (10_state.md R45). -/
  code_fail : s.code ≠ 0#32 → s.status.fail = true ∧ s.status.err = .none
  /-- Only INIT is ever stuck (40_session.md R122). -/
  stuck_init : s.stuck = true → ∃ l, s.latch = some l ∧ l.op = 1#4
  /-- REINIT is set only with the model's fault recorded since the last reset (60_exceptions.md R188). -/
  reinit_fault : s.status.reinit = true → s.faultRecord ≠ []
  /-- What was recorded since the last reset is recorded for good (60_exceptions.md R188). -/
  record_kept : s.faultRecord <:+ s.faults
  /-- No other fault is recorded (60_exceptions.md R188). -/
  faults_only : ∀ f ∈ s.faults, f = .reinitUndefined
  /-- While reset is asserted the engine stays at its reset values (70_reset_and_hazards.md R210). -/
  held_in_reset : s.inReset = true → s = s.assertReset

/-- The Engine, not the Host, moves in this step (00_scope.md R17; log 2). -/
def State.engineMoves (s : State) : Bool :=
  match s.script with
  | [] => true
  | .engine :: _ => true
  | _ => false

/-- The Host writes this value at this offset in this step, reset not being asserted. -/
def State.hostWrites (s : State) (off : Nat) (v : Word) : Prop :=
  ∃ rest, s.script = .host (.write off 4 v) :: rest ∧ s.inReset = false

/-- Reset is asserted in this step. -/
def State.resets (s : State) : Prop := ∃ rest, s.script = .resetOn :: rest

/-- A command word the spec calls ILLEGAL, said on its number: a nonzero RSV1 or RSV0, a reserved opcode, or a
must-be-zero REG or ARG bit set for its opcode (60_exceptions.md R182). -/
def illegalWord (w : Word) : Prop :=
  w.toNat / 16777216 ≠ 0 ∨ w.toNat / 16 % 16 ≠ 0 ∨ w.toNat % 16 = 0 ∨ 7 ≤ w.toNat % 16 ∨
    ((w.toNat % 16 = 1 ∨ w.toNat % 16 = 6) ∧ w.toNat / 256 % 65536 ≠ 0) ∨
    (w.toNat % 16 = 5 ∧ w.toNat / 131072 % 128 ≠ 0)

/-- The next answer is supplied and is none that a submission of `words` words, `reads` of them RD words, can get: no
BcSubmit answer at all, or one outside the success or the failure contract (40_session.md R108, R109). -/
def State.answerBreaks (s : State) (words reads : Nat) : Prop :=
  ∃ r rest, s.answers = r :: rest ∧
    ¬∃ t : Transfer, r = .transfer t ∧ (t.code = 0#32 → t.k = words ∧ t.rx.length = reads) ∧
      (t.code ≠ 0#32 → t.k < words)

/-- What a façade command's failure writes to DIAG, by the command and its sub-step; none for the register framer
(42_facade.md R167, 41_transport.md R139). -/
def facadeDiag (i : Instr) (step : SubStep) : Option Diag :=
  match i with
  | .init => some ⟨1#4, 0#8, 0#8⟩
  | .writeConfig reg v => some ⟨4#4, reg, v⟩
  | .readPort reg _ => some ⟨5#4, reg, 0#8⟩
  | .readBoth => some ⟨6#4, if step = .a then 0x12#8 else 0x13#8, 0#8⟩
  | .writeReg _ _ => none
  | .readReg _ _ => none
  | .start => none
  | .stop => none
  | .wr _ => none
  | .rdAck => none
  | .rdNack => none

/-- The latched command that takes an Engine step in this step of the machine, with its latch. -/
def State.running (s : State) (l : Latch) (i : Instr) : Prop :=
  s.engineMoves = true ∧ s.status.busy = true ∧ s.stuck = false ∧ s.latch = some l ∧
    decodeCommand l.word = .ok i

/-- A final state: the Host has made its last access, BUSY = 0 and no model fault was ever recorded, before a reset or
since (70_reset_and_hazards.md R226, 60_exceptions.md R188). -/
def State.final (s : State) : Bool :=
  s.script.all (fun e => match e with | .host _ => false | _ => true) && !s.status.busy && s.faults.isEmpty

/-- What a run shows at its end (70_reset_and_hazards.md R226). -/
structure Observation where
  status : Word
  device : Word
  code : Word
  result : Word
  diag : Word
  txbuf : List Byte
  rxbuf : List Byte
  history : List Exchange
  deriving DecidableEq, Repr

/-- The observation of a state (70_reset_and_hazards.md R226). -/
def State.observe (s : State) : Observation where
  status := s.status.word
  device := s.device.word
  code := s.code
  result := 0#16 ++ s.result16
  diag := s.diag.word
  txbuf := (List.range s.nBuf).map s.txByte
  rxbuf := (List.range s.nBuf).map s.rxByte
  history := s.history

/-- A safe run of `n` steps: it ends in a next state with no model fault ever recorded (60_exceptions.md R188). -/
def safeRun (n : Nat) (s : State) : Prop := ∃ s', core.run n s = .next s' ∧ s'.faults = []

end Sys2Proof.Machine
end

