-- ==== Sys2Proof/Certificates/Slice0/Obligations.lean ====
section
/-! DEFINITION. The statements about the machine, each formalising what its docstring cites of spec/.
A free value (log 4) is never named by a value: where the spec says `any`, a statement says nothing of it. -/

open Sys2Proof Sys2Proof.Machine

/-! ## Encoding -/

/-- Decoding the word of a well-formed instruction gives it back (30_encoding.md sections 1 and 3). -/
def Obligations.DecodeInvertsEncode : Prop :=
  ∀ i : Instr, i.wellFormed = true → decode (encode i) = .ok i

/-- An accepted word is the word of the instruction it decodes to, and that instruction is well formed: no two words
mean the same instruction (30_encoding.md sections 1 and 3). -/
def Obligations.EncodeInvertsDecode : Prop :=
  ∀ (w : CodeWord) (i : Instr), decode w = .ok i → i.wellFormed = true ∧ encode i = w

/-- What every 32-bit command word decodes to, said on its number (30_encoding.md R86, which the spec derives). -/
def Obligations.CommandWordMeaning : Prop :=
  ∀ w : Word,
    (illegalWord w → ∃ e, decodeCommand w = .error e) ∧
    (¬illegalWord w →
      (w.toNat % 16 = 1 → decodeCommand w = .ok .init) ∧
      (w.toNat % 16 = 2 →
        decodeCommand w = .ok (.writeReg (BitVec.ofNat 8 (w.toNat / 256)) (w.toNat / 65536 % 256))) ∧
      (w.toNat % 16 = 3 →
        decodeCommand w = .ok (.readReg (BitVec.ofNat 8 (w.toNat / 256)) (w.toNat / 65536 % 256))) ∧
      (w.toNat % 16 = 4 →
        decodeCommand w =
          .ok (.writeConfig (BitVec.ofNat 8 (w.toNat / 256)) (BitVec.ofNat 8 (w.toNat / 65536)))) ∧
      (w.toNat % 16 = 5 →
        decodeCommand w =
          .ok (.readPort (BitVec.ofNat 8 (w.toNat / 256))
            (if w.toNat / 65536 % 2 = 1 then .portB else .portA))) ∧
      (w.toNat % 16 = 6 → decodeCommand w = .ok .readBoth))

/-- Exactly the five primitive forms are instructions of the Bus Controller; every other 16-bit word is rejected
(30_encoding.md R89, R90). -/
def Obligations.PrimitiveWordForms : Prop :=
  ∀ p : PrimWord,
    (p.toNat = 0x1000 → decodePrim p = .ok .start) ∧
    (p.toNat = 0x2000 → decodePrim p = .ok .stop) ∧
    (p.toNat / 256 = 0x31 → decodePrim p = .ok (.wr (BitVec.ofNat 8 p.toNat))) ∧
    (p.toNat = 0x4000 → decodePrim p = .ok .rdAck) ∧
    (p.toNat = 0x4100 → decodePrim p = .ok .rdNack) ∧
    (p.toNat ≠ 0x1000 → p.toNat ≠ 0x2000 → p.toNat / 256 ≠ 0x31 → p.toNat ≠ 0x4000 → p.toNat ≠ 0x4100 →
      decodePrim p = .error .reservedPrimitive)

/-- Words written out from the spec decode to the instructions they stand for (30_encoding.md R93, R89). -/
def Obligations.SampleWordsDecode : Prop :=
  decodeTableWord 32 0x00000001 = some .init ∧
  decodeTableWord 32 0x00021402 = some (.writeReg 0x14 2) ∧
  decodeTableWord 32 0x00031203 = some (.readReg 0x12 3) ∧
  decodeTableWord 32 0x00FF0004 = some (.writeConfig 0x00 0xFF) ∧
  decodeTableWord 32 0x00011305 = some (.readPort 0x13 .portB) ∧
  decodeTableWord 32 0x00000006 = some .readBoth ∧
  decodeTableWord 16 0x1000 = some .start ∧
  decodeTableWord 16 0x2000 = some .stop ∧
  decodeTableWord 16 0x3140 = some (.wr 0x40) ∧
  decodeTableWord 16 0x4000 = some .rdAck ∧
  decodeTableWord 16 0x4100 = some .rdNack

/-- The address bytes: AW is the address shifted left one bit, AR the same with bit 0 set, neither overflowing
(30_encoding.md section 2; the spec derives the read bit). -/
def Obligations.AddressBytes : Prop :=
  ∀ a : BitVec 7, (addrWrite a).toNat = 2 * a.toNat ∧ (addrRead a).toNat = 2 * a.toNat + 1

/-! ## A step runs the decoded instruction -/

/-- The command word the Host writes to CMD, the latched command at an Engine step, and a primitive word given to
the Bus Controller are each run by `exec` (00_scope.md R17; log 2 names the event list the step reads). -/
def Obligations.StepRunsTheInstruction : Prop :=
  (∀ (s : State) (w : Word) (i : Instr) (rest : List Event),
    s.script = .host (.write 0x000 4 w) :: rest → s.inReset = false → s.status.busy = false →
    decodeCommand w = .ok i → step s = exec i { s with script := rest }) ∧
  (∀ (s : State) (l : Latch) (i : Instr), s.running l i → step s = exec i { s with script := s.script.tail }) ∧
  (∀ (s : State) (p : PrimWord) (i : Instr) (rest : List Event),
    s.script = .prim p :: rest → decodePrim p = .ok i → step s = exec i { s with script := rest })

/-- While nothing is latched, or INIT is stuck, an Engine step changes nothing (60_exceptions.md section 4,
40_session.md R122). -/
def Obligations.IdleOrStuckEngineDoesNothing : Prop :=
  ∀ s : State, s.engineMoves = true → s.status.busy = false ∨ s.stuck = true →
    step s = .next { s with script := s.script.tail }

/-! ## The host window -/

/-- Exactly the accesses R189 names are refused; every other Host access has a next state. -/
def Obligations.HostAccessRefusals : Prop :=
  ∀ (s : State) (a : Access) (rest : List Event), s.script = .host a :: rest →
    (a.width ≠ 4 ∨ a.offset % 4 ≠ 0 ∨ 0x400 ≤ a.offset → ∃ r, step s = .refused r) ∧
    (a.width = 4 → a.offset % 4 = 0 → a.offset < 0x400 → ∃ s', step s = .next s')

/-- Reserved offsets and CMD read 0; writes to reserved offsets and read-only registers change nothing and never set
OVR (20_memory.md R53). -/
def Obligations.ReservedAndReadOnlyOffsets : Prop :=
  ∀ (s : State) (off : Nat) (rest : List Event), off % 4 = 0 →
    (s.script = .host (.read off 4) :: rest →
      off = 0x000 ∨ (0x018 ≤ off ∧ off < 0x100) ∨ (0x300 ≤ off ∧ off < 0x400) →
      ∃ d, step s = .next { s with script := rest, reads := s.reads ++ [⟨off, 0#32⟩], draws := d }) ∧
    (∀ v : Word, s.script = .host (.write off 4 v) :: rest →
      (0x00C ≤ off ∧ off < 0x100) ∨ (0x200 ≤ off ∧ off < 0x400) →
      step s = .next { s with script := rest })

/-- A Host read returns the value of the window at its offset and does nothing else: nothing of the engine changes, and a
second read of any offset returns what it would have returned before the first, except RXBUF and RESULT with a command
in progress (20_memory.md section 2; `reads` and `draws` are the model's own fields, logs 2 and 4). -/
def Obligations.HostReadsHaveNoSideEffect : Prop :=
  ∀ (s : State) (off : Nat) (rest : List Event),
    s.script = .host (.read off 4) :: rest → off % 4 = 0 → off < 0x400 →
    ∃ d, step s = .next { s with script := rest, reads := s.reads ++ [⟨off, s.windowRead off⟩], draws := d } ∧
      ∀ off', s.latch = none ∨ (off' ≠ 0x010 ∧ ¬(0x200 ≤ off' ∧ off' < 0x300)) →
        State.windowRead off' { s with draws := d } = s.windowRead off'

/-- What a read of DEVICE, CODE and RESULT returns (10_state.md R22, R32 to R37): the fields of DEVICE at their bits;
RESULT16 in bits 15:0 of RESULT while no READ_BOTH is in progress, and 0 above them always. -/
def Obligations.RegisterReadValues : Prop :=
  ∀ s : State,
    (s.windowRead 0x008).toNat =
      s.device.addr.toNat + 256 * s.device.chan.toNat + 65536 * s.device.sda.toNat
        + 16777216 * s.device.scl.toNat ∧
    s.windowRead 0x00C = s.code ∧
    (s.windowRead 0x010).toNat < 65536 ∧
    ((∀ l, s.latch = some l → l.op ≠ 6#4) → (s.windowRead 0x010).toNat = s.result16.toNat)

/-- STATUS: its read value, its reset value, and a Host write, which clears exactly DONE, OVR and REINIT where
written 1, whether or not BUSY = 1, and sets nothing (10_state.md R31). -/
def Obligations.StatusRegister : Prop :=
  (∀ s : State, (s.windowRead 0x004).toNat =
      s.status.busy.toNat + 2 * s.status.done.toNat + 4 * s.status.fail.toNat
        + 16 * (match s.status.err with | .none => 0 | .illegal => 1 | .size => 2)
        + 256 * s.status.ovr.toNat + 512 * s.status.inst.toNat + 1024 * s.status.reinit.toNat) ∧
  (∀ n : Nat, (State.resetWith n).windowRead 0x004 = 0#32) ∧
  (∀ (s : State) (v : Word) (rest : List Event),
    s.script = .host (.write 0x004 4 v) :: rest → s.inReset = false →
    step s = .next { s with
      script := rest
      status := { s.status with
        done := if v.getLsbD 1 then false else s.status.done
        ovr := if v.getLsbD 8 then false else s.status.ovr
        reinit := if v.getLsbD 10 then false else s.status.reinit } })

/-- DEVICE: bit 7 reads 0 and ignores writes; a write with BUSY = 0 stores its fields and does nothing else, one with
BUSY = 1 is dropped and sets OVR; no step but a Host write to DEVICE or reset changes it (10_state.md R35). -/
def Obligations.DeviceRegister : Prop :=
  (∀ n : Nat, (State.resetWith n).windowRead 0x008 = 0#32) ∧
  (∀ (s : State) (v : Word) (rest : List Event),
    s.script = .host (.write 0x008 4 v) :: rest → s.inReset = false →
    (s.status.busy = true → step s = .next { s with script := rest, status := { s.status with ovr := true } }) ∧
    (s.status.busy = false → ∃ d : Device,
      d.addr.toNat = v.toNat % 128 ∧ d.chan.toNat = v.toNat / 256 % 256 ∧ d.sda.toNat = v.toNat / 65536 % 256 ∧
      d.scl.toNat = v.toNat / 16777216 ∧ step s = .next { s with script := rest, device := d } ∧
      State.windowRead 0x008 { s with script := rest, device := d } = v &&& 0xFFFFFF7F#32)) ∧
  (∀ s s' : State, step s = .next s' → (∀ v rest, s.script ≠ .host (.write 0x008 4 v) :: rest) → ¬s.resets →
    s'.device = s.device)

/-- OVR is bit 8 of STATUS and 0 at reset. It is set by a Host write to CMD, DEVICE or a TXBUF word with BUSY = 1,
which changes nothing else, cleared only by a STATUS write with bit 8 set or by reset, else kept (10_state.md R28).
That a Host write made while reset is asserted has no effect on it is the model's reading (log 9). -/
def Obligations.OverrunFlag : Prop :=
  (∀ n : Nat, (State.resetWith n).status.ovr = false) ∧
  (∀ s : State, (s.windowRead 0x004).getLsbD 8 = s.status.ovr) ∧
  (∀ (s s' : State) (off : Nat) (v : Word), step s = .next s' → s.hostWrites off v → s.status.busy = true →
    off = 0x000 ∨ off = 0x008 ∨ (0x100 ≤ off ∧ off < 0x200) →
    s' = { s with script := s.script.tail, status := { s.status with ovr := true } }) ∧
  (∀ s s' : State, step s = .next s' →
    (s'.status.ovr = true ↔
      (s.status.busy = true ∧ ∃ off v, s.hostWrites off v ∧ off % 4 = 0 ∧
        (off = 0x000 ∨ off = 0x008 ∨ (0x100 ≤ off ∧ off < 0x200))) ∨
      (s.status.ovr = true ∧ ¬s.resets ∧ ¬∃ v : Word, s.hostWrites 0x004 v ∧ v.getLsbD 8 = true)))

/-- A dropped write changes nothing but OVR: the command in progress goes on (60_exceptions.md R186). -/
def Obligations.OverrunDropsTheWrite : Prop :=
  ∀ (s : State) (off : Nat) (v : Word) (rest : List Event),
    s.script = .host (.write off 4 v) :: rest → s.inReset = false → s.status.busy = true → off % 4 = 0 →
    off = 0x000 ∨ off = 0x008 ∨ (0x100 ≤ off ∧ off < 0x200) →
    step s = .next { s with script := rest, status := { s.status with ovr := true } }

/-- INST is bit 9 of STATUS and 0 at reset. It is set by a successful INIT (its install request answered 0), by
nothing else, and never cleared except by reset (10_state.md R29). -/
def Obligations.InstalledFlag : Prop :=
  (∀ n : Nat, (State.resetWith n).status.inst = false) ∧
  (∀ s : State, (s.windowRead 0x004).getLsbD 9 = s.status.inst) ∧
  (∀ s s' : State, step s = .next s' →
    (s'.status.inst = true ↔
      (s.status.inst = true ∧ ¬s.resets) ∨
      (∃ l, s.running l .init ∧ l.step = .inst ∧ s.nextCode = some (some 0#32))))

/-- REINIT is bit 10 of STATUS and 0 at reset. It is set, with the model's fault recorded, by an INIT accepted while
INST = 1; cleared only by a STATUS write with bit 10 set or by reset; the write leaves the fault record alone
(10_state.md R30). That a Host write made while reset is asserted has no effect on it is the model's reading (log 9). -/
def Obligations.ReinitFlag : Prop :=
  (∀ n : Nat, (State.resetWith n).status.reinit = false) ∧
  (∀ s : State, (s.windowRead 0x004).getLsbD 10 = s.status.reinit) ∧
  (∀ s s' : State, step s = .next s' →
    (s'.status.reinit = true ↔
      (s.hostWrites 0x000 1#32 ∧ s.status.busy = false ∧ s.status.inst = true) ∨
      (s.status.reinit = true ∧ ¬s.resets ∧ ¬∃ v : Word, s.hostWrites 0x004 v ∧ v.getLsbD 10 = true))) ∧
  (∀ (s s' : State) (v : Word), step s = .next s' → s.hostWrites 0x004 v →
    s'.faults = s.faults ∧ s'.faultRecord = s.faultRecord) ∧
  (∀ s s' : State, step s = .next s' → s.hostWrites 0x000 1#32 → s.status.busy = false →
    s.status.inst = true →
    s'.faults = s.faults ++ [.reinitUndefined] ∧ s'.faultRecord = s.faultRecord ++ [.reinitUndefined])

/-- The model's faults: one is recorded per INIT accepted while INST = 1 and by no other step, none is ever cleared, by
reset neither, and no state from then on is final (60_exceptions.md section 1). The record of the reset table holds those
since the last reset, which empties it (70_reset_and_hazards.md section 1); keeping the two apart is the model's reading of
R188 and R211 (log 23). -/
def Obligations.FaultRecord : Prop :=
  (∀ s s' : State, step s = .next s' → ∃ new : List Fault,
    new = (if s.status.busy = false ∧ s.status.inst = true ∧ s.inReset = false ∧
      s.script.head? = some (.host (.write 0x000 4 1#32)) then [.reinitUndefined] else []) ∧
    s'.faults = s.faults ++ new ∧
    (¬s.resets → s'.faultRecord = s.faultRecord ++ new) ∧
    (s.resets → s'.faultRecord = [])) ∧
  (∀ (n : Nat) (s s' : State), s.faults ≠ [] → core.run n s = .next s' → s'.faults ≠ [] ∧ s'.final = false)

/-- The buffers' byte order: TXBUF and RXBUF words are little-endian, and a TXBUF word write writes its four bytes
and no other byte (20_memory.md R56); bytes at index N_BUF and above read 0 and ignore writes. -/
def Obligations.BufferByteOrder : Prop :=
  (∀ (s : State) (i j : Nat), i % 4 = 0 → i < 256 → j < 4 →
    byteOfWord (s.windowRead (0x100 + i)) j = s.txByte (i + j) ∧
    (s.latch = none → byteOfWord (s.windowRead (0x200 + i)) j = s.rxByte (i + j))) ∧
  (∀ (s : State) (i : Nat) (v : Word) (rest : List Event), Memory.wf s.mem = true → i % 4 = 0 → i < 256 →
    s.script = .host (.write (0x100 + i) 4 v) :: rest → s.inReset = false → s.status.busy = false →
    ∃ m, step s = .next { s with script := rest, mem := m } ∧
      (∀ j, j < s.nBuf →
        Memory.read m (txBase + j) =
          if i ≤ j ∧ j < i + 4 then byteOfWord v (j - i) else Memory.read s.mem (txBase + j)) ∧
      (∀ a, ¬(txBase + i ≤ a ∧ a < txBase + i + 4 ∧ a < txBase + s.nBuf) → Memory.read m a = Memory.read s.mem a))

/-- Bytes at index N_BUF and above do not exist: they read 0 and ignore writes, and a TXBUF word holding only such
bytes is reserved, except that writing it while BUSY sets OVR (20_memory.md R57). -/
def Obligations.NonexistentBufferBytes : Prop :=
  (∀ (s : State) (i j : Nat), i % 4 = 0 → i < 256 → j < 4 → s.nBuf ≤ i + j →
    byteOfWord (s.windowRead (0x100 + i)) j = 0#8 ∧ byteOfWord (s.windowRead (0x200 + i)) j = 0#8) ∧
  (∀ (s s' : State) (i : Nat) (v : Word) (rest : List Event), Memory.wf s.mem = true → i % 4 = 0 → i < 256 →
    s.script = .host (.write (0x100 + i) 4 v) :: rest → step s = .next s' →
    (∀ j, s.nBuf ≤ j → Memory.read s'.mem (txBase + j) = Memory.read s.mem (txBase + j)) ∧
    (s.nBuf ≤ i → s.inReset = false → s.status.busy = false → s' = { s with script := rest }) ∧
    (s.nBuf ≤ i → s.inReset = false → s.status.busy = true →
      s' = { s with script := rest, status := { s.status with ovr := true } }))

/-- While a read of size n is in progress the RXBUF bytes at index n and above read their stored values
(20_memory.md section 4). -/
def Obligations.RxbufDuringRead : Prop :=
  ∀ (s : State) (l : Latch) (i j : Nat), s.latch = some l → i % 4 = 0 → i < 256 → j < 4 →
    (l.op = 2#4 ∨ l.op = 1#4 ∨ l.op = 4#4 ∨ (l.op = 3#4 ∧ l.arg.toNat ≤ i + j) ∨
      ((l.op = 5#4 ∨ l.op = 6#4) ∧ 1 ≤ i + j)) →
    byteOfWord (s.windowRead (0x200 + i)) j = s.rxByte (i + j)

/-! ## Commands: what a CMD write does -/

/-- An ILLEGAL command word completes at once: FAIL, ERR = 1, CODE = 0, DONE; no request is sent and nothing else
changes (the latch is empty, as it is in every idle engine) (30_encoding.md R79, R85; 60_exceptions.md R182). -/
def Obligations.IllegalCommandWord : Prop :=
  ∀ (s : State) (w : Word) (rest : List Event),
    s.script = .host (.write 0x000 4 w) :: rest → s.inReset = false → s.status.busy = false → illegalWord w →
    step s = .next { s with
      script := rest
      status := { s.status with done := true, fail := true, err := .illegal }
      code := 0#32
      latch := none }

/-- A register write or read whose SIZE exceeds N_BUF completes at once with ERR = 2; no request is sent
(60_exceptions.md R183). -/
def Obligations.SizeErrorCompletes : Prop :=
  ∀ (s : State) (reg : Byte) (n : Nat), s.status.busy = false → s.nBuf < n →
    exec (.writeReg reg n) s = .next { s with
      status := { s.status with done := true, fail := true, err := .size }
      code := 0#32
      latch := none } ∧
    exec (.readReg reg n) s = exec (.writeReg reg n) s

/-- READ_REG of size 0 succeeds at once: no request, no RXBUF byte written (41_transport.md R133). -/
def Obligations.ReadRegOfSizeZero : Prop :=
  ∀ (s : State) (reg : Byte), s.status.busy = false →
    exec (.readReg reg 0) s = .next { s with
      status := { s.status with done := true, fail := false, err := .none }
      code := 0#32
      latch := none }

/-- The commands that need the Bus Controller are accepted with BUSY set, DONE cleared and the command latched
with a copy of DEVICE; nothing else changes (41_transport.md section 1, 10_state.md R43). -/
def Obligations.CommandsAreAccepted : Prop :=
  ∀ (s : State) (reg v : Byte) (slot : Slot) (n : Nat), s.status.busy = false →
    (n ≤ s.nBuf → exec (.writeReg reg n) s = .next { s with
      status := { s.status with busy := true, done := false }
      latch := some ⟨2#4, reg, BitVec.ofNat 8 n, s.device, .xfer⟩ }) ∧
    (1 ≤ n → n ≤ s.nBuf → exec (.readReg reg n) s = .next { s with
      status := { s.status with busy := true, done := false }
      latch := some ⟨3#4, reg, BitVec.ofNat 8 n, s.device, .xfer⟩ }) ∧
    exec (.writeConfig reg v) s = .next { s with
      status := { s.status with busy := true, done := false }
      latch := some ⟨4#4, reg, v, s.device, .xfer⟩ } ∧
    exec (.readPort reg slot) s = .next { s with
      status := { s.status with busy := true, done := false }
      latch := some ⟨5#4, reg, (match slot with | .portA => 0#8 | .portB => 1#8), s.device, .xfer⟩ } ∧
    exec .readBoth s = .next { s with
      status := { s.status with busy := true, done := false }
      latch := some ⟨6#4, 0#8, 0#8, s.device, .a⟩ }

/-- INIT is accepted whatever INST is; with INST = 1 it sets REINIT and records the model's fault, with INST = 0 it
does neither (42_facade.md section 1). -/
def Obligations.InitIsAccepted : Prop :=
  ∀ s : State, s.status.busy = false →
    (s.status.inst = false → exec .init s = .next { s with
      status := { s.status with busy := true, done := false }
      latch := some ⟨1#4, 0#8, 0#8, s.device, .cfg⟩ }) ∧
    (s.status.inst = true → exec .init s = .next { s with
      status := { s.status with busy := true, done := false, reinit := true }
      faults := s.faults ++ [.reinitUndefined]
      faultRecord := s.faultRecord ++ [.reinitUndefined]
      latch := some ⟨1#4, 0#8, 0#8, s.device, .cfg⟩ })

/-- The checks at a CMD write, in order, each deciding the flags (60_exceptions.md R190). -/
def Obligations.CheckOrderAtCommandWrite : Prop :=
  ∀ (s : State) (w : Word) (rest : List Event),
    s.script = .host (.write 0x000 4 w) :: rest → s.inReset = false →
    ∃ s', step s = .next s' ∧
      ((s.status.busy = true → s' = { s with script := rest, status := { s.status with ovr := true } }) ∧
       (s.status.busy = false → illegalWord w →
         s'.status = { s.status with done := true, fail := true, err := .illegal }) ∧
       (s.status.busy = false → ¬illegalWord w → w.toNat % 16 = 2 ∨ w.toNat % 16 = 3 →
         s.nBuf < w.toNat / 65536 % 256 →
         s'.status = { s.status with done := true, fail := true, err := .size }) ∧
       (s.status.busy = false → ¬illegalWord w → w.toNat % 16 = 3 → w.toNat / 65536 % 256 = 0 →
         s'.status = { s.status with done := true, fail := false, err := .none }) ∧
       (s.status.busy = false → ¬illegalWord w →
         ¬((w.toNat % 16 = 2 ∨ w.toNat % 16 = 3) ∧ s.nBuf < w.toNat / 65536 % 256) →
         ¬(w.toNat % 16 = 3 ∧ w.toNat / 65536 % 256 = 0) →
         s'.status = { s.status with
           busy := true
           done := false
           reinit := s.status.reinit || (decide (w.toNat % 16 = 1) && s.status.inst) }))

/-! ## Commands: the Engine steps
In each: the request sent with its answer is added to the history, the answer is taken, the session is gone, and
besides what is listed nothing changes but the Bus Controller's side and the draw counter. -/

/-- WRITE_REG sends START, the write address byte, the register byte, the n payload bytes of TXBUF and STOP in one
submission with the 500 ms timeout, and completes with the Bus Controller's code unchanged; FAIL = 0 and CODE = 0
exactly when it is 0 (41_transport.md R130). -/
def Obligations.WriteRegTransfers : Prop :=
  ∀ (s : State) (l : Latch) (reg : Byte) (n : Nat) (q : List PrimWord) (t : Transfer),
    s.status.busy = true → s.latch = some l → l.step = .xfer → s.sess = .none → n ≤ s.nBuf →
    q = [startWord, wrWord (addrWrite l.ldev.addr), wrWord reg]
      ++ (List.range n).map (fun i => wrWord (s.txByte i)) ++ [stopWord] →
    s.nextTransfer q = some t →
    ∃ b d, exec (.writeReg reg n) s = .next { s with
      status := { s.status with busy := false, done := true, fail := decide (t.code ≠ 0#32), err := .none }
      code := t.code
      latch := none
      sess := .none
      pq := []
      history := s.history ++ [⟨.submit l.ldev.chan q 500, .transfer t⟩]
      answers := s.answers.tail
      bus := b
      draws := d }

/-- A successful READ_REG of n ≥ 1 bytes sends START, the write address byte, the register byte, a repeated START,
the read address byte, n - 1 RD ACK, one RD NACK and STOP, and stores the bytes read in order in RXBUF[0..n);
every other byte keeps its value (41_transport.md R136). -/
def Obligations.ReadRegSucceeds : Prop :=
  ∀ (s : State) (l : Latch) (reg : Byte) (n : Nat) (q : List PrimWord) (t : Transfer),
    s.status.busy = true → s.latch = some l → l.step = .xfer → s.sess = .none → 1 ≤ n → n ≤ s.nBuf →
    Memory.wf s.mem = true →
    q = [startWord, wrWord (addrWrite l.ldev.addr), wrWord reg, startWord, wrWord (addrRead l.ldev.addr)]
      ++ List.replicate (n - 1) rdAckWord ++ [rdNackWord, stopWord] →
    s.nextTransfer q = some t → t.code = 0#32 →
    ∃ m b d, exec (.readReg reg n) s = .next { s with
      status := { s.status with busy := false, done := true, fail := false, err := .none }
      code := 0#32
      mem := m
      latch := none
      sess := .none
      pq := []
      history := s.history ++ [⟨.submit l.ldev.chan q 500, .transfer t⟩]
      answers := s.answers.tail
      bus := b
      draws := d } ∧
      t.rx.length = n ∧ Memory.wf m = true ∧
      (∀ i, i < n → t.rx[i]? = some (Memory.read m (rxBase + i))) ∧
      (∀ a, ¬(rxBase ≤ a ∧ a < rxBase + n) → Memory.read m a = Memory.read s.mem a)

/-- A failed READ_REG leaves RXBUF[0..n) open and every other byte as it was; CODE is the Bus Controller's code and
FAIL = 1 (41_transport.md R137). -/
def Obligations.ReadRegFails : Prop :=
  ∀ (s : State) (l : Latch) (reg : Byte) (n : Nat) (q : List PrimWord) (t : Transfer),
    s.status.busy = true → s.latch = some l → l.step = .xfer → s.sess = .none → 1 ≤ n → n ≤ s.nBuf →
    Memory.wf s.mem = true →
    q = [startWord, wrWord (addrWrite l.ldev.addr), wrWord reg, startWord, wrWord (addrRead l.ldev.addr)]
      ++ List.replicate (n - 1) rdAckWord ++ [rdNackWord, stopWord] →
    s.nextTransfer q = some t → t.code ≠ 0#32 →
    ∃ m b d, exec (.readReg reg n) s = .next { s with
      status := { s.status with busy := false, done := true, fail := true, err := .none }
      code := t.code
      mem := m
      latch := none
      sess := .none
      pq := []
      history := s.history ++ [⟨.submit l.ldev.chan q 500, .transfer t⟩]
      answers := s.answers.tail
      bus := b
      draws := d } ∧
      Memory.wf m = true ∧
      (∀ a, ¬(rxBase ≤ a ∧ a < rxBase + n) → Memory.read m a = Memory.read s.mem a)

/-- INIT's first Engine step sends BcConfig with the configure record of R151; a failure completes INIT with that
code and writes DIAG, success goes on to the install request. -/
def Obligations.InitConfigures : Prop :=
  ∀ (s : State) (l : Latch) (c : Word),
    s.status.busy = true → s.latch = some l → l.step = .cfg → s.nextCode = some (some c) →
    ∃ d, exec .init s = .next { s with
      status := if c = 0#32 then s.status else
        { s.status with busy := false, done := true, fail := true, err := .none }
      code := if c = 0#32 then s.code else c
      diag := if c = 0#32 then s.diag else ⟨1#4, 0#8, 0#8⟩
      latch := if c = 0#32 then some { l with step := .inst } else none
      history := s.history ++
        [⟨.config l.ldev.chan ⟨.master, l.ldev.sda, l.ldev.scl, .enabled, .enabled, 100000⟩, .code c⟩]
      answers := s.answers.tail
      draws := d }

/-- INIT's second Engine step sends BcInstall with the install record of R152; success sets INST, a failure leaves
it and writes DIAG; either completes INIT with that code. -/
def Obligations.InitInstalls : Prop :=
  ∀ (s : State) (l : Latch) (c : Word),
    s.status.busy = true → s.latch = some l → l.step = .inst → s.nextCode = some (some c) →
    ∃ d, exec .init s = .next { s with
      status := { s.status with
        busy := false
        done := true
        fail := decide (c ≠ 0#32)
        err := .none
        inst := s.status.inst || decide (c = 0#32) }
      code := c
      diag := if c = 0#32 then s.diag else ⟨1#4, 0#8, 0#8⟩
      latch := none
      history := s.history ++ [⟨.install l.ldev.chan ⟨.master, 0, 0⟩, .code c⟩]
      answers := s.answers.tail
      draws := d }

/-- An INIT request (the configure or the install request) that is never answered leaves the engine BUSY with INIT
latched and no Engine step enabled; no step but reset ends that, and a CMD write sets OVR (40_session.md section 4;
an answer supplied as never coming is log 3). -/
def Obligations.UnansweredInitIsStuck : Prop :=
  (∀ (s : State) (l : Latch),
    s.status.busy = true → s.latch = some l → s.nextCode = some none →
    (l.step = .cfg → ∃ d, exec .init s = .next { s with
      stuck := true
      history := s.history ++
        [⟨.config l.ldev.chan ⟨.master, l.ldev.sda, l.ldev.scl, .enabled, .enabled, 100000⟩, .silent⟩]
      answers := s.answers.tail
      draws := d }) ∧
    (l.step = .inst → ∃ d, exec .init s = .next { s with
      stuck := true
      history := s.history ++ [⟨.install l.ldev.chan ⟨.master, 0, 0⟩, .silent⟩]
      answers := s.answers.tail
      draws := d })) ∧
  (∀ s s' : State, s.Inv → s.stuck = true → step s = .next s' → ¬s.resets →
    s'.stuck = true ∧ s'.status.busy = true ∧ s'.latch = s.latch ∧
      ∀ w, s.hostWrites 0x000 w → s'.status.ovr = true)

/-- INIT from its issue to its completion: BcConfig first, BcInstall only if that answered 0; the first failing code
is the one reported; INST is set exactly if both answered 0 (42_facade.md R153, R154). -/
def Obligations.InitRunsToCompletion : Prop :=
  ∀ (s : State) (c1 c2 : Word) (rest : List Reply),
    s.script = [.host (.write 0x000 4 0x00000001#32)] → s.inReset = false → s.status.busy = false →
    s.stuck = false → s.answers = .code c1 :: .code c2 :: rest →
    ∃ s', core.run 3 s = .next s' ∧
      s'.status.busy = false ∧ s'.status.done = true ∧ s'.status.err = .none ∧
      s'.code = (if c1 ≠ 0#32 then c1 else c2) ∧
      (s'.status.fail = true ↔ c1 ≠ 0#32 ∨ c2 ≠ 0#32) ∧
      (s'.status.inst = true ↔ s.status.inst = true ∨ (c1 = 0#32 ∧ c2 = 0#32)) ∧
      s'.history = s.history ++
        (⟨.config s.device.chan ⟨.master, s.device.sda, s.device.scl, .enabled, .enabled, 100000⟩, .code c1⟩ ::
          (if c1 ≠ 0#32 then [] else [⟨.install s.device.chan ⟨.master, 0, 0⟩, .code c2⟩])) ∧
      s'.answers = (if c1 ≠ 0#32 then .code c2 :: rest else rest)

/-- WRITE_CONFIG sends the five stages START, write address byte, register byte, value byte, STOP, completes with
the code, and writes DIAG on failure only; TXBUF is neither read nor written (42_facade.md section 2). -/
def Obligations.WriteConfigTransfers : Prop :=
  ∀ (s : State) (l : Latch) (reg v : Byte) (q : List PrimWord) (t : Transfer),
    s.status.busy = true → s.latch = some l → l.step = .xfer → s.sess = .none →
    q = [startWord, wrWord (addrWrite l.ldev.addr), wrWord reg, wrWord v, stopWord] →
    s.nextTransfer q = some t →
    ∃ b d, exec (.writeConfig reg v) s = .next { s with
      status := { s.status with busy := false, done := true, fail := decide (t.code ≠ 0#32), err := .none }
      code := t.code
      diag := if t.code = 0#32 then s.diag else ⟨4#4, reg, v⟩
      latch := none
      sess := .none
      pq := []
      history := s.history ++ [⟨.submit l.ldev.chan q 500, .transfer t⟩]
      answers := s.answers.tail
      bus := b
      draws := d }

/-- A successful READ_PORT writes the byte read to RXBUF[0] and to exactly the cache slot SLOT names, whichever
device it reads (42_facade.md R159). -/
def Obligations.ReadPortSucceeds : Prop :=
  ∀ (s : State) (l : Latch) (reg : Byte) (slot : Slot) (q : List PrimWord) (t : Transfer),
    s.status.busy = true → s.latch = some l → l.step = .xfer → s.sess = .none → Memory.wf s.mem = true →
    q = [startWord, wrWord (addrWrite l.ldev.addr), wrWord reg, startWord, wrWord (addrRead l.ldev.addr),
      rdNackWord, stopWord] →
    s.nextTransfer q = some t → t.code = 0#32 →
    ∃ v m b d, t.rx = [v] ∧ exec (.readPort reg slot) s = .next { s with
      status := { s.status with busy := false, done := true, fail := false, err := .none }
      code := 0#32
      mem := m
      cacheA := match slot with | .portA => v | .portB => s.cacheA
      cacheB := match slot with | .portA => s.cacheB | .portB => v
      latch := none
      sess := .none
      pq := []
      history := s.history ++ [⟨.submit l.ldev.chan q 500, .transfer t⟩]
      answers := s.answers.tail
      bus := b
      draws := d } ∧
      Memory.wf m = true ∧ Memory.read m rxBase = v ∧
      (∀ a, a ≠ rxBase → Memory.read m a = Memory.read s.mem a)

/-- A failed READ_PORT leaves both cache slots unchanged, RXBUF[0] open and every other byte as it was; CODE holds
the Bus Controller's code and DIAG the context (42_facade.md R160). -/
def Obligations.ReadPortFails : Prop :=
  ∀ (s : State) (l : Latch) (reg : Byte) (slot : Slot) (q : List PrimWord) (t : Transfer),
    s.status.busy = true → s.latch = some l → l.step = .xfer → s.sess = .none → Memory.wf s.mem = true →
    q = [startWord, wrWord (addrWrite l.ldev.addr), wrWord reg, startWord, wrWord (addrRead l.ldev.addr),
      rdNackWord, stopWord] →
    s.nextTransfer q = some t → t.code ≠ 0#32 →
    ∃ m b d, exec (.readPort reg slot) s = .next { s with
      status := { s.status with busy := false, done := true, fail := true, err := .none }
      code := t.code
      diag := ⟨5#4, reg, 0#8⟩
      mem := m
      latch := none
      sess := .none
      pq := []
      history := s.history ++ [⟨.submit l.ldev.chan q 500, .transfer t⟩]
      answers := s.answers.tail
      bus := b
      draws := d } ∧
      Memory.wf m = true ∧ (∀ a, a ≠ rxBase → Memory.read m a = Memory.read s.mem a)

/-- READ_BOTH's first Engine step reads register 0x12: success writes RXBUF[0] and CACHE_A and goes on to port B; a
failure ends the command with no port B read sent, RESULT16 and RXBUF[0] open (42_facade.md R163). -/
def Obligations.ReadBothReadsPortA : Prop :=
  ∀ (s : State) (l : Latch) (q : List PrimWord) (t : Transfer),
    s.status.busy = true → s.latch = some l → l.step = .a → s.sess = .none → Memory.wf s.mem = true →
    q = [startWord, wrWord (addrWrite l.ldev.addr), wrWord 0x12#8, startWord, wrWord (addrRead l.ldev.addr),
      rdNackWord, stopWord] →
    s.nextTransfer q = some t →
    ∃ m r ca b d, exec .readBoth s = .next { s with
      status := if t.code = 0#32 then s.status else
        { s.status with busy := false, done := true, fail := true, err := .none }
      code := if t.code = 0#32 then s.code else t.code
      diag := if t.code = 0#32 then s.diag else ⟨6#4, 0x12#8, 0#8⟩
      result16 := r
      mem := m
      cacheA := ca
      latch := if t.code = 0#32 then some { l with step := .b } else none
      sess := .none
      pq := []
      history := s.history ++ [⟨.submit l.ldev.chan q 500, .transfer t⟩]
      answers := s.answers.tail
      bus := b
      draws := d } ∧
      Memory.wf m = true ∧ (∀ a, a ≠ rxBase → Memory.read m a = Memory.read s.mem a) ∧
      (t.code = 0#32 → r = s.result16 ∧ t.rx = [ca] ∧ Memory.read m rxBase = ca) ∧
      (t.code ≠ 0#32 → ca = s.cacheA)

/-- READ_BOTH's second Engine step reads register 0x13: success writes RXBUF[0] and CACHE_B and RESULT16 =
CACHE_A | (CACHE_B << 8); a failure leaves RESULT16 and RXBUF[0] open and CACHE_B unchanged (42_facade.md section
4). -/
def Obligations.ReadBothReadsPortB : Prop :=
  ∀ (s : State) (l : Latch) (q : List PrimWord) (t : Transfer),
    s.status.busy = true → s.latch = some l → l.step = .b → s.sess = .none → Memory.wf s.mem = true →
    q = [startWord, wrWord (addrWrite l.ldev.addr), wrWord 0x13#8, startWord, wrWord (addrRead l.ldev.addr),
      rdNackWord, stopWord] →
    s.nextTransfer q = some t →
    ∃ m r cb b d, exec .readBoth s = .next { s with
      status := { s.status with busy := false, done := true, fail := decide (t.code ≠ 0#32), err := .none }
      code := t.code
      diag := if t.code = 0#32 then s.diag else ⟨6#4, 0x13#8, 0#8⟩
      result16 := r
      mem := m
      cacheB := cb
      latch := none
      sess := .none
      pq := []
      history := s.history ++ [⟨.submit l.ldev.chan q 500, .transfer t⟩]
      answers := s.answers.tail
      bus := b
      draws := d } ∧
      Memory.wf m = true ∧ (∀ a, a ≠ rxBase → Memory.read m a = Memory.read s.mem a) ∧
      (t.code = 0#32 → t.rx = [cb] ∧ Memory.read m rxBase = cb ∧
        r.toNat = s.cacheA.toNat + 256 * cb.toNat) ∧
      (t.code ≠ 0#32 → cb = s.cacheB)

/-- READ_BOTH from its issue to its completion, both reads succeeding: RESULT reads portA | (portB << 8), RXBUF[0]
and the caches hold the bytes read, and exactly the two submissions were sent, port A first (42_facade.md R162). -/
def Obligations.ReadBothCombines : Prop :=
  ∀ (s : State) (va vb : Byte) (rest : List Reply),
    s.script = [.host (.write 0x000 4 0x00000006#32)] → s.inReset = false → s.status.busy = false →
    s.stuck = false → s.sess = .none → Memory.wf s.mem = true → 1 ≤ s.nBuf →
    s.answers = .transfer ⟨0#32, 7, [va]⟩ :: .transfer ⟨0#32, 7, [vb]⟩ :: rest →
    ∃ s', core.run 3 s = .next s' ∧
      (s'.windowRead 0x010).toNat = va.toNat + 256 * vb.toNat ∧
      s'.rxByte 0 = vb ∧ s'.cacheA = va ∧ s'.cacheB = vb ∧
      s'.status = { s.status with busy := false, done := true, fail := false, err := .none } ∧
      s'.code = 0#32 ∧ s'.diag = s.diag ∧ s'.answers = rest ∧
      s'.history = s.history ++
        [⟨.submit s.device.chan [startWord, wrWord (addrWrite s.device.addr), wrWord 0x12#8, startWord,
            wrWord (addrRead s.device.addr), rdNackWord, stopWord] 500, .transfer ⟨0#32, 7, [va]⟩⟩,
         ⟨.submit s.device.chan [startWord, wrWord (addrWrite s.device.addr), wrWord 0x13#8, startWord,
            wrWord (addrRead s.device.addr), rdNackWord, stopWord] 500, .transfer ⟨0#32, 7, [vb]⟩⟩]

/-- Every accepted command other than INIT reaches its completion after at most two Engine steps, whatever the Bus
Controller answers within its contract (40_session.md section 4). -/
def Obligations.CommandsReachCompletion : Prop :=
  ∀ (s : State) (l : Latch), s.Inv → s.latch = some l → l.op ≠ 1#4 → s.script = [] → s.answers = [] →
    ∃ s', core.run 2 s = .next s' ∧ s'.status.busy = false ∧ s'.status.done = true ∧ s'.latch = none ∧
      s'.status.err = .none ∧ (s'.status.fail = true ↔ s'.code ≠ 0#32)

/-- DIAG is written in the step in which a façade command completes with a nonzero code, with its opcode, register
and value, and by no other step but reset (42_facade.md R167). -/
def Obligations.DiagRecordsFacadeFailures : Prop :=
  (∀ s : State, (s.windowRead 0x014).toNat =
    s.diag.op.toNat + 256 * s.diag.reg.toNat + 65536 * s.diag.value.toNat) ∧
  (∀ s s' : State, step s = .next s' → ¬s.resets →
    (∀ l i dg, s.running l i → facadeDiag i l.step = some dg → s'.latch = none → s'.code ≠ 0#32 → s'.diag = dg) ∧
    (¬(∃ l i dg, s.running l i ∧ facadeDiag i l.step = some dg ∧ s'.latch = none ∧ s'.code ≠ 0#32) →
      s'.diag = s.diag))

/-- The Port Value Cache: CACHE_A is written only by a port read to slot A, CACHE_B only by one to slot B, each only
on success; no Host read sees them; they are 0 at reset (10_state.md R41). -/
def Obligations.PortValueCache : Prop :=
  (∀ s s' : State, step s = .next s' → ¬s.resets →
    (s'.cacheA ≠ s.cacheA → ∃ l, ((∃ reg, s.running l (.readPort reg .portA)) ∨
      (s.running l .readBoth ∧ l.step = .a)) ∧ (s'.latch = none → s'.code = 0#32)) ∧
    (s'.cacheB ≠ s.cacheB → ∃ l, ((∃ reg, s.running l (.readPort reg .portB)) ∨
      (s.running l .readBoth ∧ l.step = .b)) ∧ (s'.latch = none → s'.code = 0#32))) ∧
  (∀ (s : State) (a b : Byte) (off : Nat),
    State.windowRead off { s with cacheA := a, cacheB := b } = s.windowRead off) ∧
  (∀ n, (State.resetWith n).cacheA = 0#8 ∧ (State.resetWith n).cacheB = 0#8)

/-- What no Engine step or acceptance changes, whichever instruction: DEVICE, every TXBUF byte, OVR, N_BUF, the
reset input, the events to come and the values read; and the request history only grows, by at most one exchange
(10_state.md R35, R39; 41_transport.md section 1; 40_session.md section 4). -/
def Obligations.InstructionFrame : Prop :=
  ∀ (i : Instr) (s s' : State), Memory.wf s.mem = true → exec i s = .next s' →
    s'.device = s.device ∧ s'.status.ovr = s.status.ovr ∧ s'.nBuf = s.nBuf ∧ s'.inReset = s.inReset ∧
      s'.script = s.script ∧ s'.reads = s.reads ∧
      (∀ a, a < rxBase → Memory.read s'.mem a = Memory.read s.mem a) ∧
      (s'.history = s.history ∨ ∃ x, s'.history = s.history ++ [x])

/-! ## The session and the Bus Controller -/

/-- From a state of the invariant, a step adds at most one request to the history; a submission it adds begins with
START, ends with STOP, holds at most Q_MAX words and carries 500 ms, its answer keeps the contract, and it was run on the
bus as answered: the wire trace is that of the queue sent, with or without a STOP after a failed primitive. A configure or
install request leaves the bus (40_session.md sections 1, 2 and 4; `bus` is the model's record, log 5). -/
def Obligations.RequestsAreWellFramed : Prop :=
  ∀ s s' : State, s.Inv → step s = .next s' →
    s'.history = s.history ∨ ∃ x, s'.history = s.history ++ [x] ∧
      ((∀ chan prims ms, x.request ≠ .submit chan prims ms) → s'.bus = s.bus) ∧
      ∀ chan prims ms, x.request = .submit chan prims ms →
        ms = 500 ∧ prims.length ≤ s.nBuf + 6 ∧
        (∃ body, prims = startWord :: body ++ [stopWord]) ∧
        ∃ t, x.reply = .transfer t ∧ t.legalFor prims = true ∧
          s'.bus.plan = none ∧ s'.bus.code = t.code ∧ s'.bus.k = t.k ∧
          (t.code = 0#32 → s'.bus.rx = t.rx ∧ s'.bus.held = false) ∧
          ∃ stop, s'.bus.wire.map WireEvent.word = wireTrace prims t stop

/-- A submission run primitive by primitive is its answer: the code, the primitives completed and the wire trace (with
or without a STOP after a failed primitive) are the answer's, and on success the bytes read are (40_session.md sections 2
and 4). -/
def Obligations.SubmissionRunsAsAnswered : Prop :=
  ∀ (prims : List PrimWord) (t : Transfer) (s : State),
    (∀ p ∈ prims, ∃ i, decodePrim p = .ok i) → stopWord ∉ prims →
    t.legalFor (prims ++ [stopWord]) = true →
    (s.runSubmission (prims ++ [stopWord]) t).bus.code = t.code ∧
    (s.runSubmission (prims ++ [stopWord]) t).bus.k = t.k ∧
    (t.code = 0#32 → (s.runSubmission (prims ++ [stopWord]) t).bus.rx = t.rx ∧
      (s.runSubmission (prims ++ [stopWord]) t).bus.held = false) ∧
    ∃ stop, (s.runSubmission (prims ++ [stopWord]) t).bus.wire.map WireEvent.word =
      wireTrace (prims ++ [stopWord]) t stop

/-- START in a submission: a start condition, a repeated start if this session holds the bus already, unless the
answer fails it here; the engine's own state does not change. Whether a STOP follows a failed primitive, and with none
whether the bus is held, is open (40_session.md sections 2 and 3; log 21). -/
def Obligations.StartCondition : Prop :=
  ∀ (s : State) (t : Transfer), s.bus.plan = some t →
    ∃ (d : Nat) (stop held : Bool), exec .start s = .next { s with
      draws := d
      bus := if t.code ≠ 0#32 ∧ t.k = s.bus.k then
          { s.bus with
            plan := none
            code := t.code
            wire := s.bus.wire ++ [if s.bus.held then .restart else .start] ++ (if stop then [.stop] else [])
            held := held && !stop }
        else
          { s.bus with
            k := s.bus.k + 1
            wire := s.bus.wire ++ [if s.bus.held then .restart else .start]
            held := true } }

/-- STOP in a submission: a stop condition that releases the bus and ends the submission, unless the answer fails it
here; then another STOP, and with none whether the bus is held, is open (40_session.md sections 2 and 3; log 21). -/
def Obligations.StopCondition : Prop :=
  ∀ (s : State) (t : Transfer), s.bus.plan = some t →
    ∃ (d : Nat) (stop held : Bool), exec .stop s = .next { s with
      draws := d
      bus := if t.code ≠ 0#32 ∧ t.k = s.bus.k then
          { s.bus with
            plan := none
            code := t.code
            wire := s.bus.wire ++ [.stop] ++ (if stop then [.stop] else [])
            held := held && !stop }
        else
          { s.bus with plan := none, k := s.bus.k + 1, wire := s.bus.wire ++ [.stop], held := false } }

/-- WR in a submission: the byte goes on the wire; an acknowledgement lets the queue go on, a missing one fails the
submission at this index (40_session.md R113). After a failure, a STOP, and with none whether the bus is held, is open
(log 21). -/
def Obligations.WriteByteOnBus : Prop :=
  ∀ (s : State) (t : Transfer) (v : Byte), s.bus.plan = some t →
    ∃ (d : Nat) (stop held : Bool), exec (.wr v) s = .next { s with
      draws := d
      bus := if t.code ≠ 0#32 ∧ t.k = s.bus.k then
          { s.bus with
            plan := none
            code := t.code
            wire := s.bus.wire ++ [.write v] ++ (if stop then [.stop] else [])
            held := held && !stop }
        else { s.bus with k := s.bus.k + 1, wire := s.bus.wire ++ [.write v] } }

/-- RD ACK and RD NACK in a submission: one byte, the answer's where it gives one, becomes the next element of `rx`,
with an ACK or a NACK after it, unless the answer fails the primitive here; then a STOP, and with none whether the bus
is held, is open (40_session.md sections 2 and 3; log 21). -/
def Obligations.ReadByteOnBus : Prop :=
  ∀ (s : State) (t : Transfer), s.bus.plan = some t →
    ∃ (v : Byte) (d : Nat) (stop held : Bool), (∀ x, t.rx[s.bus.rx.length]? = some x → v = x) ∧
      (exec .rdAck s = .next { s with
        draws := d
        bus := if t.code ≠ 0#32 ∧ t.k = s.bus.k then
            { s.bus with
              plan := none
              code := t.code
              wire := s.bus.wire ++ [.read false] ++ (if stop then [.stop] else [])
              held := held && !stop }
          else { s.bus with
            k := s.bus.k + 1, wire := s.bus.wire ++ [.read false], rx := s.bus.rx ++ [v] } }) ∧
      (exec .rdNack s = .next { s with
        draws := d
        bus := if t.code ≠ 0#32 ∧ t.k = s.bus.k then
            { s.bus with
              plan := none
              code := t.code
              wire := s.bus.wire ++ [.read true] ++ (if stop then [.stop] else [])
              held := held && !stop }
          else { s.bus with
            k := s.bus.k + 1, wire := s.bus.wire ++ [.read true], rx := s.bus.rx ++ [v] } })

/-- In every state, with or without a submission in progress, a primitive has a next state that differs only on the
Bus Controller's side (10_state.md R44; log 5 for a primitive outside a submission). -/
def Obligations.PrimitivesTouchOnlyTheBus : Prop :=
  ∀ (s : State) (v : Byte) (i : Instr),
    i = .start ∨ i = .stop ∨ i = .wr v ∨ i = .rdAck ∨ i = .rdNack →
    ∃ b d, exec i s = .next { s with bus := b, draws := d }

/-- The engine's next state depends on the Bus Controller's answer and on nothing else of the Bus Controller: a
command run in two states that differ only in the Bus Controller's record ends alike (40_session.md section 2). -/
def Obligations.EngineSeesOnlyAnswers : Prop :=
  ∀ (w : Word) (i : Instr) (s s' : State) (b : Bus), decodeCommand w = .ok i → exec i s = .next s' →
    ∃ b', exec i { s with bus := b } = .next { s' with bus := b' }

/-! ## Reset, the invariant, stops -/

/-- What reset leaves, for every N_BUF: every piece of engine state at the value of the rule's table; the engine is
idle and takes the first command; the machine's own reset state is this one, at an N_BUF from 1 to 255
(70_reset_and_hazards.md R211; which N_BUF it is the statement does not say). -/
def Obligations.ResetValues : Prop :=
  ∀ n : Nat,
    (State.resetWith n).status.word = 0#32 ∧ (State.resetWith n).device.word = 0#32 ∧
    (State.resetWith n).code = 0#32 ∧ (State.resetWith n).result16 = 0#16 ∧
    (State.resetWith n).diag.word = 0#32 ∧
    (∀ i, (State.resetWith n).txByte i = 0#8 ∧ (State.resetWith n).rxByte i = 0#8) ∧
    (State.resetWith n).cacheA = 0#8 ∧ (State.resetWith n).cacheB = 0#8 ∧
    (State.resetWith n).sess = .none ∧ (State.resetWith n).pq = [] ∧ (State.resetWith n).latch = none ∧
    (State.resetWith n).faults = [] ∧ (State.resetWith n).faultRecord = [] ∧
    (∃ m, 1 ≤ m ∧ m ≤ 255 ∧ State.reset = State.resetWith m) ∧
    ∀ w i, decodeCommand w = .ok i → ∃ s', exec i (State.resetWith n) = .next s' ∧
      (s'.status.busy = true ∨ s'.status.done = true)

/-- Asserting reset puts every piece of engine state at its reset value from any state, so a command in progress ends
without a completion and an unanswered request is abandoned; the Bus Controller's side stays unless a submission is
pending, when it is open (log 22); a CMD write while reset is asserted does nothing; releasing reset only ends that, which
is the model's reading of a reset level (log 9); the history stays, which is its reading too (log 11), as do its own
fields; the fault record of the reset table is emptied and the faults themselves stay (60_exceptions.md R188; log 23)
(70_reset_and_hazards.md R210, R212). -/
def Obligations.ResetInput : Prop :=
  (∀ (s : State) (rest : List Event), s.script = .resetOn :: rest →
    ∃ b d, step s = .next { State.resetWith s.nBuf with
      inReset := true
      faults := s.faults
      bus := b
      script := rest
      history := s.history
      answers := s.answers
      reads := s.reads
      draws := d } ∧
      ((∀ l, s.latch = some l → l.step = .cfg ∨ l.step = .inst) → b = s.bus)) ∧
  (∀ (s : State) (w : Word) (rest : List Event),
    s.script = .host (.write 0x000 4 w) :: rest → s.inReset = true → step s = .next { s with script := rest }) ∧
  (∀ (s : State) (rest : List Event), s.script = .resetOff :: rest →
    step s = .next { s with script := rest, inReset := false })

/-- The invariant holds at reset, for every N_BUF in its range. -/
def Obligations.InvariantAtReset : Prop :=
  ∀ n : Nat, 1 ≤ n → n ≤ 255 → (State.resetWith n).Inv

/-- Every step keeps the invariant: the flags' implications of 10_state.md R45, a canonical memory within the buffers,
no session between steps, a latch that fits its command, and the reset values while reset is asserted (Safety.lean,
State.Inv). The last rests on the model's reading that no Host write has an effect then (log 9). -/
def Obligations.StepKeepsInvariant : Prop :=
  ∀ s s' : State, s.Inv → step s = .next s' → s'.Inv

/-- No step from a state of the invariant ends in a fault: every `require` of the session holds at its use, and the
engine has no other fault (60_exceptions.md sections 1 and 2, 40_session.md section 1). -/
def Obligations.NoStepFaults : Prop :=
  ∀ (s : State) (f : Fault), s.Inv → step s ≠ .fault f

/-- A second master on the channel, and a primitive word that is none of the five forms, are refused by name
(60_exceptions.md section 4, 30_encoding.md R90). -/
def Obligations.OutsideUsesAreRefused : Prop :=
  ∀ (s : State) (rest : List Event),
    (s.script = .foreign :: rest → step s = .refused .sharedChannel) ∧
    (∀ p, s.script = .prim p :: rest → decodePrim p = .error .reservedPrimitive →
      step s = .refused .reservedPrimitive)

/-- A supplied answer outside the contract is rejected by name, and only such an answer is: with the session free, each
command's Engine step is refused exactly if the next answer is no answer to its request, a queue of so many words with so
many RD words, or for INIT a request answered by a code (40_session.md sections 2 and 4; supplying answers in a list is the
model's choice, log 3). -/
def Obligations.IllegalAnswersAreRejected : Prop :=
  ∀ (s : State) (l : Latch) (reg v : Byte) (n : Nat) (slot : Slot),
    s.status.busy = true → s.latch = some l → s.sess = .none →
    (l.step = .xfer →
      (n ≤ s.nBuf → (exec (.writeReg reg n) s = .refused .replyBreaksContract ↔ s.answerBreaks (n + 4) 0)) ∧
      (1 ≤ n → n ≤ s.nBuf → (exec (.readReg reg n) s = .refused .replyBreaksContract ↔ s.answerBreaks (n + 6) n)) ∧
      (exec (.writeConfig reg v) s = .refused .replyBreaksContract ↔ s.answerBreaks 5 0) ∧
      (exec (.readPort reg slot) s = .refused .replyBreaksContract ↔ s.answerBreaks 7 1)) ∧
    (l.step = .a ∨ l.step = .b → (exec .readBoth s = .refused .replyBreaksContract ↔ s.answerBreaks 7 1)) ∧
    (l.step = .cfg ∨ l.step = .inst →
      (exec .init s = .refused .replyBreaksContract ↔ ∃ t rest, s.answers = .transfer t :: rest))
end

