-- ==== Sys2Proof/Laws/Decode.lean ====
section
/-! SUPPORT. The fields of a word as arithmetic on its number, and the fields of an encoded command word. -/

namespace Sys2Proof

/-- A concatenation as a number. -/
theorem toNat_append_eq {m n : Nat} (x : BitVec m) (y : BitVec n) :
    (x ++ y).toNat = x.toNat * 2 ^ n + y.toNat := by
  rw [BitVec.toNat_append, ← Nat.shiftLeft_add_eq_or_of_lt y.isLt, Nat.shiftLeft_eq]

/-- The number of a command word. -/
theorem commandWord_toNat (op : BitVec 4) (reg arg : Byte) :
    (commandWord op reg arg).toNat = arg.toNat * 65536 + reg.toNat * 256 + op.toNat := by
  simp only [commandWord, toNat_append_eq, BitVec.toNat_ofNat]
  omega

theorem cmdOp_toNat (w : Word) : (cmdOp w).toNat = w.toNat % 16 := by
  simp [cmdOp, BitVec.extractLsb'_toNat]

theorem cmdRsv0_toNat (w : Word) : (cmdRsv0 w).toNat = w.toNat / 16 % 16 := by
  simp [cmdRsv0, BitVec.extractLsb'_toNat, Nat.shiftRight_eq_div_pow]

theorem cmdReg_toNat (w : Word) : (cmdReg w).toNat = w.toNat / 256 % 256 := by
  simp [cmdReg, BitVec.extractLsb'_toNat, Nat.shiftRight_eq_div_pow]

theorem cmdArg_toNat (w : Word) : (cmdArg w).toNat = w.toNat / 65536 % 256 := by
  simp [cmdArg, BitVec.extractLsb'_toNat, Nat.shiftRight_eq_div_pow]

theorem cmdRsv1_toNat (w : Word) : (cmdRsv1 w).toNat = w.toNat / 16777216 := by
  have := w.isLt
  simp only [cmdRsv1, BitVec.extractLsb'_toNat, Nat.shiftRight_eq_div_pow]
  omega

@[simp] theorem cmdOp_commandWord (op : BitVec 4) (reg arg : Byte) : cmdOp (commandWord op reg arg) = op := by
  apply BitVec.eq_of_toNat_eq
  rw [cmdOp_toNat, commandWord_toNat]
  omega

@[simp] theorem cmdRsv0_commandWord (op : BitVec 4) (reg arg : Byte) :
    cmdRsv0 (commandWord op reg arg) = 0#4 := by
  apply BitVec.eq_of_toNat_eq
  rw [cmdRsv0_toNat, commandWord_toNat, BitVec.toNat_ofNat]
  omega

@[simp] theorem cmdReg_commandWord (op : BitVec 4) (reg arg : Byte) : cmdReg (commandWord op reg arg) = reg := by
  apply BitVec.eq_of_toNat_eq
  rw [cmdReg_toNat, commandWord_toNat]
  omega

@[simp] theorem cmdArg_commandWord (op : BitVec 4) (reg arg : Byte) : cmdArg (commandWord op reg arg) = arg := by
  apply BitVec.eq_of_toNat_eq
  rw [cmdArg_toNat, commandWord_toNat]
  omega

@[simp] theorem cmdRsv1_commandWord (op : BitVec 4) (reg arg : Byte) :
    cmdRsv1 (commandWord op reg arg) = 0#8 := by
  apply BitVec.eq_of_toNat_eq
  rw [cmdRsv1_toNat, commandWord_toNat, BitVec.toNat_ofNat]
  omega

/-- A word whose reserved fields are 0 is the command word of its own fields. -/
theorem commandWord_fields {w : Word} (h1 : cmdRsv1 w = 0#8) (h0 : cmdRsv0 w = 0#4) :
    commandWord (cmdOp w) (cmdReg w) (cmdArg w) = w := by
  apply BitVec.eq_of_toNat_eq
  have e1 : w.toNat / 16777216 = 0 := by rw [← cmdRsv1_toNat, h1]; rfl
  have e0 : w.toNat / 16 % 16 = 0 := by rw [← cmdRsv0_toNat, h0]; rfl
  rw [commandWord_toNat, cmdOp_toNat, cmdReg_toNat, cmdArg_toNat]
  omega

/-- What a word built from its fields, the reserved ones 0, decodes to. -/
theorem decode_commandWord (op : BitVec 4) (reg arg : Byte) :
    decodeCommand (commandWord op reg arg) =
      if op = 1#4 then if reg = 0#8 ∧ arg = 0#8 then .ok .init else .error .operandNotZero
      else if op = 2#4 then .ok (.writeReg reg arg.toNat)
      else if op = 3#4 then .ok (.readReg reg arg.toNat)
      else if op = 4#4 then .ok (.writeConfig reg arg)
      else if op = 5#4 then
        if arg.extractLsb' 1 7 = 0#7 then .ok (.readPort reg (slotOfArg arg)) else .error .operandNotZero
      else if op = 6#4 then if reg = 0#8 ∧ arg = 0#8 then .ok .readBoth else .error .operandNotZero
      else .error .reservedOpcode := by
  simp [decodeCommand]

theorem slotOfArg_slotArg (slot : Slot) : slotOfArg (slotArg slot) = slot := by
  cases slot <;> decide

/-- The slot bit is all of an ARG whose other bits are 0. -/
theorem slotArg_slotOfArg {arg : Byte} (h : arg.extractLsb' 1 7 = 0#7) : slotArg (slotOfArg arg) = arg := by
  revert arg
  decide

theorem primData_wrWord (b : Byte) : primData (wrWord b) = b := by
  revert b
  decide

end Sys2Proof
end

