-- ==== Sys2Proof/Laws/State.lean ====
section
/-! SUPPORT. One lemma per field per update of the state, each true by unfolding that update once. -/

namespace Sys2Proof.Machine

/-! ### accept -/

@[simp] theorem State.accept_nBuf (s : State) (op : BitVec 4) (reg arg : Byte) (step : SubStep) : (s.accept op reg arg step).nBuf = s.nBuf := rfl
@[simp] theorem State.accept_status (s : State) (op : BitVec 4) (reg arg : Byte) (step : SubStep) : (s.accept op reg arg step).status = s.status.accepted := rfl
@[simp] theorem State.accept_device (s : State) (op : BitVec 4) (reg arg : Byte) (step : SubStep) : (s.accept op reg arg step).device = s.device := rfl
@[simp] theorem State.accept_code (s : State) (op : BitVec 4) (reg arg : Byte) (step : SubStep) : (s.accept op reg arg step).code = s.code := rfl
@[simp] theorem State.accept_result16 (s : State) (op : BitVec 4) (reg arg : Byte) (step : SubStep) : (s.accept op reg arg step).result16 = s.result16 := rfl
@[simp] theorem State.accept_diag (s : State) (op : BitVec 4) (reg arg : Byte) (step : SubStep) : (s.accept op reg arg step).diag = s.diag := rfl
@[simp] theorem State.accept_mem (s : State) (op : BitVec 4) (reg arg : Byte) (step : SubStep) : (s.accept op reg arg step).mem = s.mem := rfl
@[simp] theorem State.accept_cacheA (s : State) (op : BitVec 4) (reg arg : Byte) (step : SubStep) : (s.accept op reg arg step).cacheA = s.cacheA := rfl
@[simp] theorem State.accept_cacheB (s : State) (op : BitVec 4) (reg arg : Byte) (step : SubStep) : (s.accept op reg arg step).cacheB = s.cacheB := rfl
@[simp] theorem State.accept_sess (s : State) (op : BitVec 4) (reg arg : Byte) (step : SubStep) : (s.accept op reg arg step).sess = s.sess := rfl
@[simp] theorem State.accept_pq (s : State) (op : BitVec 4) (reg arg : Byte) (step : SubStep) : (s.accept op reg arg step).pq = s.pq := rfl
@[simp] theorem State.accept_latch (s : State) (op : BitVec 4) (reg arg : Byte) (step : SubStep) : (s.accept op reg arg step).latch = some ⟨op, reg, arg, s.device, step⟩ := rfl
@[simp] theorem State.accept_stuck (s : State) (op : BitVec 4) (reg arg : Byte) (step : SubStep) : (s.accept op reg arg step).stuck = s.stuck := rfl
@[simp] theorem State.accept_inReset (s : State) (op : BitVec 4) (reg arg : Byte) (step : SubStep) : (s.accept op reg arg step).inReset = s.inReset := rfl
@[simp] theorem State.accept_faults (s : State) (op : BitVec 4) (reg arg : Byte) (step : SubStep) : (s.accept op reg arg step).faults = s.faults := rfl
@[simp] theorem State.accept_faultRecord (s : State) (op : BitVec 4) (reg arg : Byte) (step : SubStep) : (s.accept op reg arg step).faultRecord = s.faultRecord := rfl
@[simp] theorem State.accept_history (s : State) (op : BitVec 4) (reg arg : Byte) (step : SubStep) : (s.accept op reg arg step).history = s.history := rfl
@[simp] theorem State.accept_bus (s : State) (op : BitVec 4) (reg arg : Byte) (step : SubStep) : (s.accept op reg arg step).bus = s.bus := rfl
@[simp] theorem State.accept_script (s : State) (op : BitVec 4) (reg arg : Byte) (step : SubStep) : (s.accept op reg arg step).script = s.script := rfl
@[simp] theorem State.accept_answers (s : State) (op : BitVec 4) (reg arg : Byte) (step : SubStep) : (s.accept op reg arg step).answers = s.answers := rfl
@[simp] theorem State.accept_reads (s : State) (op : BitVec 4) (reg arg : Byte) (step : SubStep) : (s.accept op reg arg step).reads = s.reads := rfl
@[simp] theorem State.accept_draws (s : State) (op : BitVec 4) (reg arg : Byte) (step : SubStep) : (s.accept op reg arg step).draws = s.draws := rfl

/-! ### complete -/

@[simp] theorem State.complete_nBuf (s : State) (c : Word) (e : EngineError) : (s.complete c e).nBuf = s.nBuf := rfl
@[simp] theorem State.complete_status (s : State) (c : Word) (e : EngineError) : (s.complete c e).status = s.status.completed c e := rfl
@[simp] theorem State.complete_device (s : State) (c : Word) (e : EngineError) : (s.complete c e).device = s.device := rfl
@[simp] theorem State.complete_code (s : State) (c : Word) (e : EngineError) : (s.complete c e).code = if e = .none then c else 0#32 := rfl
@[simp] theorem State.complete_result16 (s : State) (c : Word) (e : EngineError) : (s.complete c e).result16 = s.result16 := rfl
@[simp] theorem State.complete_diag (s : State) (c : Word) (e : EngineError) : (s.complete c e).diag = s.diag := rfl
@[simp] theorem State.complete_mem (s : State) (c : Word) (e : EngineError) : (s.complete c e).mem = s.mem := rfl
@[simp] theorem State.complete_cacheA (s : State) (c : Word) (e : EngineError) : (s.complete c e).cacheA = s.cacheA := rfl
@[simp] theorem State.complete_cacheB (s : State) (c : Word) (e : EngineError) : (s.complete c e).cacheB = s.cacheB := rfl
@[simp] theorem State.complete_sess (s : State) (c : Word) (e : EngineError) : (s.complete c e).sess = s.sess := rfl
@[simp] theorem State.complete_pq (s : State) (c : Word) (e : EngineError) : (s.complete c e).pq = s.pq := rfl
@[simp] theorem State.complete_latch (s : State) (c : Word) (e : EngineError) : (s.complete c e).latch = none := rfl
@[simp] theorem State.complete_stuck (s : State) (c : Word) (e : EngineError) : (s.complete c e).stuck = s.stuck := rfl
@[simp] theorem State.complete_inReset (s : State) (c : Word) (e : EngineError) : (s.complete c e).inReset = s.inReset := rfl
@[simp] theorem State.complete_faults (s : State) (c : Word) (e : EngineError) : (s.complete c e).faults = s.faults := rfl
@[simp] theorem State.complete_faultRecord (s : State) (c : Word) (e : EngineError) : (s.complete c e).faultRecord = s.faultRecord := rfl
@[simp] theorem State.complete_history (s : State) (c : Word) (e : EngineError) : (s.complete c e).history = s.history := rfl
@[simp] theorem State.complete_bus (s : State) (c : Word) (e : EngineError) : (s.complete c e).bus = s.bus := rfl
@[simp] theorem State.complete_script (s : State) (c : Word) (e : EngineError) : (s.complete c e).script = s.script := rfl
@[simp] theorem State.complete_answers (s : State) (c : Word) (e : EngineError) : (s.complete c e).answers = s.answers := rfl
@[simp] theorem State.complete_reads (s : State) (c : Word) (e : EngineError) : (s.complete c e).reads = s.reads := rfl
@[simp] theorem State.complete_draws (s : State) (c : Word) (e : EngineError) : (s.complete c e).draws = s.draws := rfl

/-! ### writeDiag -/

@[simp] theorem State.writeDiag_nBuf (s : State) (op : BitVec 4) (reg v : Byte) : (s.writeDiag op reg v).nBuf = s.nBuf := rfl
@[simp] theorem State.writeDiag_status (s : State) (op : BitVec 4) (reg v : Byte) : (s.writeDiag op reg v).status = s.status := rfl
@[simp] theorem State.writeDiag_device (s : State) (op : BitVec 4) (reg v : Byte) : (s.writeDiag op reg v).device = s.device := rfl
@[simp] theorem State.writeDiag_code (s : State) (op : BitVec 4) (reg v : Byte) : (s.writeDiag op reg v).code = s.code := rfl
@[simp] theorem State.writeDiag_result16 (s : State) (op : BitVec 4) (reg v : Byte) : (s.writeDiag op reg v).result16 = s.result16 := rfl
@[simp] theorem State.writeDiag_diag (s : State) (op : BitVec 4) (reg v : Byte) : (s.writeDiag op reg v).diag = ⟨op, reg, v⟩ := rfl
@[simp] theorem State.writeDiag_mem (s : State) (op : BitVec 4) (reg v : Byte) : (s.writeDiag op reg v).mem = s.mem := rfl
@[simp] theorem State.writeDiag_cacheA (s : State) (op : BitVec 4) (reg v : Byte) : (s.writeDiag op reg v).cacheA = s.cacheA := rfl
@[simp] theorem State.writeDiag_cacheB (s : State) (op : BitVec 4) (reg v : Byte) : (s.writeDiag op reg v).cacheB = s.cacheB := rfl
@[simp] theorem State.writeDiag_sess (s : State) (op : BitVec 4) (reg v : Byte) : (s.writeDiag op reg v).sess = s.sess := rfl
@[simp] theorem State.writeDiag_pq (s : State) (op : BitVec 4) (reg v : Byte) : (s.writeDiag op reg v).pq = s.pq := rfl
@[simp] theorem State.writeDiag_latch (s : State) (op : BitVec 4) (reg v : Byte) : (s.writeDiag op reg v).latch = s.latch := rfl
@[simp] theorem State.writeDiag_stuck (s : State) (op : BitVec 4) (reg v : Byte) : (s.writeDiag op reg v).stuck = s.stuck := rfl
@[simp] theorem State.writeDiag_inReset (s : State) (op : BitVec 4) (reg v : Byte) : (s.writeDiag op reg v).inReset = s.inReset := rfl
@[simp] theorem State.writeDiag_faults (s : State) (op : BitVec 4) (reg v : Byte) : (s.writeDiag op reg v).faults = s.faults := rfl
@[simp] theorem State.writeDiag_faultRecord (s : State) (op : BitVec 4) (reg v : Byte) : (s.writeDiag op reg v).faultRecord = s.faultRecord := rfl
@[simp] theorem State.writeDiag_history (s : State) (op : BitVec 4) (reg v : Byte) : (s.writeDiag op reg v).history = s.history := rfl
@[simp] theorem State.writeDiag_bus (s : State) (op : BitVec 4) (reg v : Byte) : (s.writeDiag op reg v).bus = s.bus := rfl
@[simp] theorem State.writeDiag_script (s : State) (op : BitVec 4) (reg v : Byte) : (s.writeDiag op reg v).script = s.script := rfl
@[simp] theorem State.writeDiag_answers (s : State) (op : BitVec 4) (reg v : Byte) : (s.writeDiag op reg v).answers = s.answers := rfl
@[simp] theorem State.writeDiag_reads (s : State) (op : BitVec 4) (reg v : Byte) : (s.writeDiag op reg v).reads = s.reads := rfl
@[simp] theorem State.writeDiag_draws (s : State) (op : BitVec 4) (reg v : Byte) : (s.writeDiag op reg v).draws = s.draws := rfl

/-! ### storeRx -/

@[simp] theorem State.storeRx_nBuf (s : State) (vs : List Byte) : (s.storeRx vs).nBuf = s.nBuf := rfl
@[simp] theorem State.storeRx_status (s : State) (vs : List Byte) : (s.storeRx vs).status = s.status := rfl
@[simp] theorem State.storeRx_device (s : State) (vs : List Byte) : (s.storeRx vs).device = s.device := rfl
@[simp] theorem State.storeRx_code (s : State) (vs : List Byte) : (s.storeRx vs).code = s.code := rfl
@[simp] theorem State.storeRx_result16 (s : State) (vs : List Byte) : (s.storeRx vs).result16 = s.result16 := rfl
@[simp] theorem State.storeRx_diag (s : State) (vs : List Byte) : (s.storeRx vs).diag = s.diag := rfl
@[simp] theorem State.storeRx_mem (s : State) (vs : List Byte) : (s.storeRx vs).mem = Memory.writeBytes s.mem rxBase vs := rfl
@[simp] theorem State.storeRx_cacheA (s : State) (vs : List Byte) : (s.storeRx vs).cacheA = s.cacheA := rfl
@[simp] theorem State.storeRx_cacheB (s : State) (vs : List Byte) : (s.storeRx vs).cacheB = s.cacheB := rfl
@[simp] theorem State.storeRx_sess (s : State) (vs : List Byte) : (s.storeRx vs).sess = s.sess := rfl
@[simp] theorem State.storeRx_pq (s : State) (vs : List Byte) : (s.storeRx vs).pq = s.pq := rfl
@[simp] theorem State.storeRx_latch (s : State) (vs : List Byte) : (s.storeRx vs).latch = s.latch := rfl
@[simp] theorem State.storeRx_stuck (s : State) (vs : List Byte) : (s.storeRx vs).stuck = s.stuck := rfl
@[simp] theorem State.storeRx_inReset (s : State) (vs : List Byte) : (s.storeRx vs).inReset = s.inReset := rfl
@[simp] theorem State.storeRx_faults (s : State) (vs : List Byte) : (s.storeRx vs).faults = s.faults := rfl
@[simp] theorem State.storeRx_faultRecord (s : State) (vs : List Byte) : (s.storeRx vs).faultRecord = s.faultRecord := rfl
@[simp] theorem State.storeRx_history (s : State) (vs : List Byte) : (s.storeRx vs).history = s.history := rfl
@[simp] theorem State.storeRx_bus (s : State) (vs : List Byte) : (s.storeRx vs).bus = s.bus := rfl
@[simp] theorem State.storeRx_script (s : State) (vs : List Byte) : (s.storeRx vs).script = s.script := rfl
@[simp] theorem State.storeRx_answers (s : State) (vs : List Byte) : (s.storeRx vs).answers = s.answers := rfl
@[simp] theorem State.storeRx_reads (s : State) (vs : List Byte) : (s.storeRx vs).reads = s.reads := rfl
@[simp] theorem State.storeRx_draws (s : State) (vs : List Byte) : (s.storeRx vs).draws = s.draws := rfl

/-! ### spoilRx -/

@[simp] theorem State.spoilRx_nBuf (s : State) (n : Nat) : (s.spoilRx n).nBuf = s.nBuf := rfl
@[simp] theorem State.spoilRx_status (s : State) (n : Nat) : (s.spoilRx n).status = s.status := rfl
@[simp] theorem State.spoilRx_device (s : State) (n : Nat) : (s.spoilRx n).device = s.device := rfl
@[simp] theorem State.spoilRx_code (s : State) (n : Nat) : (s.spoilRx n).code = s.code := rfl
@[simp] theorem State.spoilRx_result16 (s : State) (n : Nat) : (s.spoilRx n).result16 = s.result16 := rfl
@[simp] theorem State.spoilRx_diag (s : State) (n : Nat) : (s.spoilRx n).diag = s.diag := rfl
@[simp] theorem State.spoilRx_mem (s : State) (n : Nat) : (s.spoilRx n).mem = Memory.writeBytes s.mem rxBase (freeRun s.draws n) := rfl
@[simp] theorem State.spoilRx_cacheA (s : State) (n : Nat) : (s.spoilRx n).cacheA = s.cacheA := rfl
@[simp] theorem State.spoilRx_cacheB (s : State) (n : Nat) : (s.spoilRx n).cacheB = s.cacheB := rfl
@[simp] theorem State.spoilRx_sess (s : State) (n : Nat) : (s.spoilRx n).sess = s.sess := rfl
@[simp] theorem State.spoilRx_pq (s : State) (n : Nat) : (s.spoilRx n).pq = s.pq := rfl
@[simp] theorem State.spoilRx_latch (s : State) (n : Nat) : (s.spoilRx n).latch = s.latch := rfl
@[simp] theorem State.spoilRx_stuck (s : State) (n : Nat) : (s.spoilRx n).stuck = s.stuck := rfl
@[simp] theorem State.spoilRx_inReset (s : State) (n : Nat) : (s.spoilRx n).inReset = s.inReset := rfl
@[simp] theorem State.spoilRx_faults (s : State) (n : Nat) : (s.spoilRx n).faults = s.faults := rfl
@[simp] theorem State.spoilRx_faultRecord (s : State) (n : Nat) : (s.spoilRx n).faultRecord = s.faultRecord := rfl
@[simp] theorem State.spoilRx_history (s : State) (n : Nat) : (s.spoilRx n).history = s.history := rfl
@[simp] theorem State.spoilRx_bus (s : State) (n : Nat) : (s.spoilRx n).bus = s.bus := rfl
@[simp] theorem State.spoilRx_script (s : State) (n : Nat) : (s.spoilRx n).script = s.script := rfl
@[simp] theorem State.spoilRx_answers (s : State) (n : Nat) : (s.spoilRx n).answers = s.answers := rfl
@[simp] theorem State.spoilRx_reads (s : State) (n : Nat) : (s.spoilRx n).reads = s.reads := rfl
@[simp] theorem State.spoilRx_draws (s : State) (n : Nat) : (s.spoilRx n).draws = s.draws + n := rfl

/-! ### spoilResult -/

@[simp] theorem State.spoilResult_nBuf (s : State) : (s.spoilResult).nBuf = s.nBuf := rfl
@[simp] theorem State.spoilResult_status (s : State) : (s.spoilResult).status = s.status := rfl
@[simp] theorem State.spoilResult_device (s : State) : (s.spoilResult).device = s.device := rfl
@[simp] theorem State.spoilResult_code (s : State) : (s.spoilResult).code = s.code := rfl
@[simp] theorem State.spoilResult_result16 (s : State) : (s.spoilResult).result16 = Config.freeHalf s.draws := rfl
@[simp] theorem State.spoilResult_diag (s : State) : (s.spoilResult).diag = s.diag := rfl
@[simp] theorem State.spoilResult_mem (s : State) : (s.spoilResult).mem = s.mem := rfl
@[simp] theorem State.spoilResult_cacheA (s : State) : (s.spoilResult).cacheA = s.cacheA := rfl
@[simp] theorem State.spoilResult_cacheB (s : State) : (s.spoilResult).cacheB = s.cacheB := rfl
@[simp] theorem State.spoilResult_sess (s : State) : (s.spoilResult).sess = s.sess := rfl
@[simp] theorem State.spoilResult_pq (s : State) : (s.spoilResult).pq = s.pq := rfl
@[simp] theorem State.spoilResult_latch (s : State) : (s.spoilResult).latch = s.latch := rfl
@[simp] theorem State.spoilResult_stuck (s : State) : (s.spoilResult).stuck = s.stuck := rfl
@[simp] theorem State.spoilResult_inReset (s : State) : (s.spoilResult).inReset = s.inReset := rfl
@[simp] theorem State.spoilResult_faults (s : State) : (s.spoilResult).faults = s.faults := rfl
@[simp] theorem State.spoilResult_faultRecord (s : State) : (s.spoilResult).faultRecord = s.faultRecord := rfl
@[simp] theorem State.spoilResult_history (s : State) : (s.spoilResult).history = s.history := rfl
@[simp] theorem State.spoilResult_bus (s : State) : (s.spoilResult).bus = s.bus := rfl
@[simp] theorem State.spoilResult_script (s : State) : (s.spoilResult).script = s.script := rfl
@[simp] theorem State.spoilResult_answers (s : State) : (s.spoilResult).answers = s.answers := rfl
@[simp] theorem State.spoilResult_reads (s : State) : (s.spoilResult).reads = s.reads := rfl
@[simp] theorem State.spoilResult_draws (s : State) : (s.spoilResult).draws = s.draws + 1 := rfl

/-! ### toSubStep -/

@[simp] theorem State.toSubStep_nBuf (s : State) (l : Latch) (step : SubStep) : (s.toSubStep l step).nBuf = s.nBuf := rfl
@[simp] theorem State.toSubStep_status (s : State) (l : Latch) (step : SubStep) : (s.toSubStep l step).status = s.status := rfl
@[simp] theorem State.toSubStep_device (s : State) (l : Latch) (step : SubStep) : (s.toSubStep l step).device = s.device := rfl
@[simp] theorem State.toSubStep_code (s : State) (l : Latch) (step : SubStep) : (s.toSubStep l step).code = s.code := rfl
@[simp] theorem State.toSubStep_result16 (s : State) (l : Latch) (step : SubStep) : (s.toSubStep l step).result16 = s.result16 := rfl
@[simp] theorem State.toSubStep_diag (s : State) (l : Latch) (step : SubStep) : (s.toSubStep l step).diag = s.diag := rfl
@[simp] theorem State.toSubStep_mem (s : State) (l : Latch) (step : SubStep) : (s.toSubStep l step).mem = s.mem := rfl
@[simp] theorem State.toSubStep_cacheA (s : State) (l : Latch) (step : SubStep) : (s.toSubStep l step).cacheA = s.cacheA := rfl
@[simp] theorem State.toSubStep_cacheB (s : State) (l : Latch) (step : SubStep) : (s.toSubStep l step).cacheB = s.cacheB := rfl
@[simp] theorem State.toSubStep_sess (s : State) (l : Latch) (step : SubStep) : (s.toSubStep l step).sess = s.sess := rfl
@[simp] theorem State.toSubStep_pq (s : State) (l : Latch) (step : SubStep) : (s.toSubStep l step).pq = s.pq := rfl
@[simp] theorem State.toSubStep_latch (s : State) (l : Latch) (step : SubStep) : (s.toSubStep l step).latch = some { l with step := step } := rfl
@[simp] theorem State.toSubStep_stuck (s : State) (l : Latch) (step : SubStep) : (s.toSubStep l step).stuck = s.stuck := rfl
@[simp] theorem State.toSubStep_inReset (s : State) (l : Latch) (step : SubStep) : (s.toSubStep l step).inReset = s.inReset := rfl
@[simp] theorem State.toSubStep_faults (s : State) (l : Latch) (step : SubStep) : (s.toSubStep l step).faults = s.faults := rfl
@[simp] theorem State.toSubStep_faultRecord (s : State) (l : Latch) (step : SubStep) : (s.toSubStep l step).faultRecord = s.faultRecord := rfl
@[simp] theorem State.toSubStep_history (s : State) (l : Latch) (step : SubStep) : (s.toSubStep l step).history = s.history := rfl
@[simp] theorem State.toSubStep_bus (s : State) (l : Latch) (step : SubStep) : (s.toSubStep l step).bus = s.bus := rfl
@[simp] theorem State.toSubStep_script (s : State) (l : Latch) (step : SubStep) : (s.toSubStep l step).script = s.script := rfl
@[simp] theorem State.toSubStep_answers (s : State) (l : Latch) (step : SubStep) : (s.toSubStep l step).answers = s.answers := rfl
@[simp] theorem State.toSubStep_reads (s : State) (l : Latch) (step : SubStep) : (s.toSubStep l step).reads = s.reads := rfl
@[simp] theorem State.toSubStep_draws (s : State) (l : Latch) (step : SubStep) : (s.toSubStep l step).draws = s.draws := rfl

/-! ### takeReply -/

@[simp] theorem State.takeReply_nBuf (s : State) (n : Nat) : (s.takeReply n).nBuf = s.nBuf := rfl
@[simp] theorem State.takeReply_status (s : State) (n : Nat) : (s.takeReply n).status = s.status := rfl
@[simp] theorem State.takeReply_device (s : State) (n : Nat) : (s.takeReply n).device = s.device := rfl
@[simp] theorem State.takeReply_code (s : State) (n : Nat) : (s.takeReply n).code = s.code := rfl
@[simp] theorem State.takeReply_result16 (s : State) (n : Nat) : (s.takeReply n).result16 = s.result16 := rfl
@[simp] theorem State.takeReply_diag (s : State) (n : Nat) : (s.takeReply n).diag = s.diag := rfl
@[simp] theorem State.takeReply_mem (s : State) (n : Nat) : (s.takeReply n).mem = s.mem := rfl
@[simp] theorem State.takeReply_cacheA (s : State) (n : Nat) : (s.takeReply n).cacheA = s.cacheA := rfl
@[simp] theorem State.takeReply_cacheB (s : State) (n : Nat) : (s.takeReply n).cacheB = s.cacheB := rfl
@[simp] theorem State.takeReply_sess (s : State) (n : Nat) : (s.takeReply n).sess = s.sess := rfl
@[simp] theorem State.takeReply_pq (s : State) (n : Nat) : (s.takeReply n).pq = s.pq := rfl
@[simp] theorem State.takeReply_latch (s : State) (n : Nat) : (s.takeReply n).latch = s.latch := rfl
@[simp] theorem State.takeReply_stuck (s : State) (n : Nat) : (s.takeReply n).stuck = s.stuck := rfl
@[simp] theorem State.takeReply_inReset (s : State) (n : Nat) : (s.takeReply n).inReset = s.inReset := rfl
@[simp] theorem State.takeReply_faults (s : State) (n : Nat) : (s.takeReply n).faults = s.faults := rfl
@[simp] theorem State.takeReply_faultRecord (s : State) (n : Nat) : (s.takeReply n).faultRecord = s.faultRecord := rfl
@[simp] theorem State.takeReply_history (s : State) (n : Nat) : (s.takeReply n).history = s.history := rfl
@[simp] theorem State.takeReply_bus (s : State) (n : Nat) : (s.takeReply n).bus = s.bus := rfl
@[simp] theorem State.takeReply_script (s : State) (n : Nat) : (s.takeReply n).script = s.script := rfl
@[simp] theorem State.takeReply_answers (s : State) (n : Nat) : (s.takeReply n).answers = s.answers.tail := rfl
@[simp] theorem State.takeReply_reads (s : State) (n : Nat) : (s.takeReply n).reads = s.reads := rfl
@[simp] theorem State.takeReply_draws (s : State) (n : Nat) : (s.takeReply n).draws = if s.answers = [] then s.draws + n else s.draws := rfl

/-! ### record -/

@[simp] theorem State.record_nBuf (s : State) (q : Request) (r : Reply) : (s.record q r).nBuf = s.nBuf := rfl
@[simp] theorem State.record_status (s : State) (q : Request) (r : Reply) : (s.record q r).status = s.status := rfl
@[simp] theorem State.record_device (s : State) (q : Request) (r : Reply) : (s.record q r).device = s.device := rfl
@[simp] theorem State.record_code (s : State) (q : Request) (r : Reply) : (s.record q r).code = s.code := rfl
@[simp] theorem State.record_result16 (s : State) (q : Request) (r : Reply) : (s.record q r).result16 = s.result16 := rfl
@[simp] theorem State.record_diag (s : State) (q : Request) (r : Reply) : (s.record q r).diag = s.diag := rfl
@[simp] theorem State.record_mem (s : State) (q : Request) (r : Reply) : (s.record q r).mem = s.mem := rfl
@[simp] theorem State.record_cacheA (s : State) (q : Request) (r : Reply) : (s.record q r).cacheA = s.cacheA := rfl
@[simp] theorem State.record_cacheB (s : State) (q : Request) (r : Reply) : (s.record q r).cacheB = s.cacheB := rfl
@[simp] theorem State.record_sess (s : State) (q : Request) (r : Reply) : (s.record q r).sess = s.sess := rfl
@[simp] theorem State.record_pq (s : State) (q : Request) (r : Reply) : (s.record q r).pq = s.pq := rfl
@[simp] theorem State.record_latch (s : State) (q : Request) (r : Reply) : (s.record q r).latch = s.latch := rfl
@[simp] theorem State.record_stuck (s : State) (q : Request) (r : Reply) : (s.record q r).stuck = s.stuck := rfl
@[simp] theorem State.record_inReset (s : State) (q : Request) (r : Reply) : (s.record q r).inReset = s.inReset := rfl
@[simp] theorem State.record_faults (s : State) (q : Request) (r : Reply) : (s.record q r).faults = s.faults := rfl
@[simp] theorem State.record_faultRecord (s : State) (q : Request) (r : Reply) : (s.record q r).faultRecord = s.faultRecord := rfl
@[simp] theorem State.record_history (s : State) (q : Request) (r : Reply) : (s.record q r).history = s.history ++ [⟨q, r⟩] := rfl
@[simp] theorem State.record_bus (s : State) (q : Request) (r : Reply) : (s.record q r).bus = s.bus := rfl
@[simp] theorem State.record_script (s : State) (q : Request) (r : Reply) : (s.record q r).script = s.script := rfl
@[simp] theorem State.record_answers (s : State) (q : Request) (r : Reply) : (s.record q r).answers = s.answers := rfl
@[simp] theorem State.record_reads (s : State) (q : Request) (r : Reply) : (s.record q r).reads = s.reads := rfl
@[simp] theorem State.record_draws (s : State) (q : Request) (r : Reply) : (s.record q r).draws = s.draws := rfl

/-! ### recordFault -/

@[simp] theorem State.recordFault_nBuf (s : State) (f : Fault) : (s.recordFault f).nBuf = s.nBuf := rfl
@[simp] theorem State.recordFault_status (s : State) (f : Fault) : (s.recordFault f).status = s.status := rfl
@[simp] theorem State.recordFault_device (s : State) (f : Fault) : (s.recordFault f).device = s.device := rfl
@[simp] theorem State.recordFault_code (s : State) (f : Fault) : (s.recordFault f).code = s.code := rfl
@[simp] theorem State.recordFault_result16 (s : State) (f : Fault) : (s.recordFault f).result16 = s.result16 := rfl
@[simp] theorem State.recordFault_diag (s : State) (f : Fault) : (s.recordFault f).diag = s.diag := rfl
@[simp] theorem State.recordFault_mem (s : State) (f : Fault) : (s.recordFault f).mem = s.mem := rfl
@[simp] theorem State.recordFault_cacheA (s : State) (f : Fault) : (s.recordFault f).cacheA = s.cacheA := rfl
@[simp] theorem State.recordFault_cacheB (s : State) (f : Fault) : (s.recordFault f).cacheB = s.cacheB := rfl
@[simp] theorem State.recordFault_sess (s : State) (f : Fault) : (s.recordFault f).sess = s.sess := rfl
@[simp] theorem State.recordFault_pq (s : State) (f : Fault) : (s.recordFault f).pq = s.pq := rfl
@[simp] theorem State.recordFault_latch (s : State) (f : Fault) : (s.recordFault f).latch = s.latch := rfl
@[simp] theorem State.recordFault_stuck (s : State) (f : Fault) : (s.recordFault f).stuck = s.stuck := rfl
@[simp] theorem State.recordFault_inReset (s : State) (f : Fault) : (s.recordFault f).inReset = s.inReset := rfl
@[simp] theorem State.recordFault_faults (s : State) (f : Fault) : (s.recordFault f).faults = s.faults ++ [f] := rfl
@[simp] theorem State.recordFault_faultRecord (s : State) (f : Fault) : (s.recordFault f).faultRecord = s.faultRecord ++ [f] := rfl
@[simp] theorem State.recordFault_history (s : State) (f : Fault) : (s.recordFault f).history = s.history := rfl
@[simp] theorem State.recordFault_bus (s : State) (f : Fault) : (s.recordFault f).bus = s.bus := rfl
@[simp] theorem State.recordFault_script (s : State) (f : Fault) : (s.recordFault f).script = s.script := rfl
@[simp] theorem State.recordFault_answers (s : State) (f : Fault) : (s.recordFault f).answers = s.answers := rfl
@[simp] theorem State.recordFault_reads (s : State) (f : Fault) : (s.recordFault f).reads = s.reads := rfl
@[simp] theorem State.recordFault_draws (s : State) (f : Fault) : (s.recordFault f).draws = s.draws := rfl

/-! ### release -/

@[simp] theorem State.release_nBuf (s : State) : (s.release).nBuf = s.nBuf := rfl
@[simp] theorem State.release_status (s : State) : (s.release).status = s.status := rfl
@[simp] theorem State.release_device (s : State) : (s.release).device = s.device := rfl
@[simp] theorem State.release_code (s : State) : (s.release).code = s.code := rfl
@[simp] theorem State.release_result16 (s : State) : (s.release).result16 = s.result16 := rfl
@[simp] theorem State.release_diag (s : State) : (s.release).diag = s.diag := rfl
@[simp] theorem State.release_mem (s : State) : (s.release).mem = s.mem := rfl
@[simp] theorem State.release_cacheA (s : State) : (s.release).cacheA = s.cacheA := rfl
@[simp] theorem State.release_cacheB (s : State) : (s.release).cacheB = s.cacheB := rfl
@[simp] theorem State.release_sess (s : State) : (s.release).sess = .none := rfl
@[simp] theorem State.release_pq (s : State) : (s.release).pq = [] := rfl
@[simp] theorem State.release_latch (s : State) : (s.release).latch = s.latch := rfl
@[simp] theorem State.release_stuck (s : State) : (s.release).stuck = s.stuck := rfl
@[simp] theorem State.release_inReset (s : State) : (s.release).inReset = s.inReset := rfl
@[simp] theorem State.release_faults (s : State) : (s.release).faults = s.faults := rfl
@[simp] theorem State.release_faultRecord (s : State) : (s.release).faultRecord = s.faultRecord := rfl
@[simp] theorem State.release_history (s : State) : (s.release).history = s.history := rfl
@[simp] theorem State.release_bus (s : State) : (s.release).bus = s.bus := rfl
@[simp] theorem State.release_script (s : State) : (s.release).script = s.script := rfl
@[simp] theorem State.release_answers (s : State) : (s.release).answers = s.answers := rfl
@[simp] theorem State.release_reads (s : State) : (s.release).reads = s.reads := rfl
@[simp] theorem State.release_draws (s : State) : (s.release).draws = s.draws := rfl

/-! ### dropWrite -/

@[simp] theorem State.dropWrite_nBuf (s : State) : (s.dropWrite).nBuf = s.nBuf := rfl
@[simp] theorem State.dropWrite_status (s : State) : (s.dropWrite).status = s.status.overrun := rfl
@[simp] theorem State.dropWrite_device (s : State) : (s.dropWrite).device = s.device := rfl
@[simp] theorem State.dropWrite_code (s : State) : (s.dropWrite).code = s.code := rfl
@[simp] theorem State.dropWrite_result16 (s : State) : (s.dropWrite).result16 = s.result16 := rfl
@[simp] theorem State.dropWrite_diag (s : State) : (s.dropWrite).diag = s.diag := rfl
@[simp] theorem State.dropWrite_mem (s : State) : (s.dropWrite).mem = s.mem := rfl
@[simp] theorem State.dropWrite_cacheA (s : State) : (s.dropWrite).cacheA = s.cacheA := rfl
@[simp] theorem State.dropWrite_cacheB (s : State) : (s.dropWrite).cacheB = s.cacheB := rfl
@[simp] theorem State.dropWrite_sess (s : State) : (s.dropWrite).sess = s.sess := rfl
@[simp] theorem State.dropWrite_pq (s : State) : (s.dropWrite).pq = s.pq := rfl
@[simp] theorem State.dropWrite_latch (s : State) : (s.dropWrite).latch = s.latch := rfl
@[simp] theorem State.dropWrite_stuck (s : State) : (s.dropWrite).stuck = s.stuck := rfl
@[simp] theorem State.dropWrite_inReset (s : State) : (s.dropWrite).inReset = s.inReset := rfl
@[simp] theorem State.dropWrite_faults (s : State) : (s.dropWrite).faults = s.faults := rfl
@[simp] theorem State.dropWrite_faultRecord (s : State) : (s.dropWrite).faultRecord = s.faultRecord := rfl
@[simp] theorem State.dropWrite_history (s : State) : (s.dropWrite).history = s.history := rfl
@[simp] theorem State.dropWrite_bus (s : State) : (s.dropWrite).bus = s.bus := rfl
@[simp] theorem State.dropWrite_script (s : State) : (s.dropWrite).script = s.script := rfl
@[simp] theorem State.dropWrite_answers (s : State) : (s.dropWrite).answers = s.answers := rfl
@[simp] theorem State.dropWrite_reads (s : State) : (s.dropWrite).reads = s.reads := rfl
@[simp] theorem State.dropWrite_draws (s : State) : (s.dropWrite).draws = s.draws := rfl

/-! ### hostRead -/

@[simp] theorem State.hostRead_nBuf (s : State) (off : Nat) : (s.hostRead off).nBuf = s.nBuf := rfl
@[simp] theorem State.hostRead_status (s : State) (off : Nat) : (s.hostRead off).status = s.status := rfl
@[simp] theorem State.hostRead_device (s : State) (off : Nat) : (s.hostRead off).device = s.device := rfl
@[simp] theorem State.hostRead_code (s : State) (off : Nat) : (s.hostRead off).code = s.code := rfl
@[simp] theorem State.hostRead_result16 (s : State) (off : Nat) : (s.hostRead off).result16 = s.result16 := rfl
@[simp] theorem State.hostRead_diag (s : State) (off : Nat) : (s.hostRead off).diag = s.diag := rfl
@[simp] theorem State.hostRead_mem (s : State) (off : Nat) : (s.hostRead off).mem = s.mem := rfl
@[simp] theorem State.hostRead_cacheA (s : State) (off : Nat) : (s.hostRead off).cacheA = s.cacheA := rfl
@[simp] theorem State.hostRead_cacheB (s : State) (off : Nat) : (s.hostRead off).cacheB = s.cacheB := rfl
@[simp] theorem State.hostRead_sess (s : State) (off : Nat) : (s.hostRead off).sess = s.sess := rfl
@[simp] theorem State.hostRead_pq (s : State) (off : Nat) : (s.hostRead off).pq = s.pq := rfl
@[simp] theorem State.hostRead_latch (s : State) (off : Nat) : (s.hostRead off).latch = s.latch := rfl
@[simp] theorem State.hostRead_stuck (s : State) (off : Nat) : (s.hostRead off).stuck = s.stuck := rfl
@[simp] theorem State.hostRead_inReset (s : State) (off : Nat) : (s.hostRead off).inReset = s.inReset := rfl
@[simp] theorem State.hostRead_faults (s : State) (off : Nat) : (s.hostRead off).faults = s.faults := rfl
@[simp] theorem State.hostRead_faultRecord (s : State) (off : Nat) : (s.hostRead off).faultRecord = s.faultRecord := rfl
@[simp] theorem State.hostRead_history (s : State) (off : Nat) : (s.hostRead off).history = s.history := rfl
@[simp] theorem State.hostRead_bus (s : State) (off : Nat) : (s.hostRead off).bus = s.bus := rfl
@[simp] theorem State.hostRead_script (s : State) (off : Nat) : (s.hostRead off).script = s.script := rfl
@[simp] theorem State.hostRead_answers (s : State) (off : Nat) : (s.hostRead off).answers = s.answers := rfl
@[simp] theorem State.hostRead_reads (s : State) (off : Nat) : (s.hostRead off).reads = s.reads ++ [⟨off, s.windowRead off⟩] := rfl
@[simp] theorem State.hostRead_draws (s : State) (off : Nat) : (s.hostRead off).draws = s.draws + 4 := rfl

/-! ### assertReset -/

@[simp] theorem State.assertReset_nBuf (s : State) : (s.assertReset).nBuf = s.nBuf := rfl
@[simp] theorem State.assertReset_status (s : State) : (s.assertReset).status = Status.zero := rfl
@[simp] theorem State.assertReset_device (s : State) : (s.assertReset).device = ⟨0#7, 0#8, 0#8, 0#8⟩ := rfl
@[simp] theorem State.assertReset_code (s : State) : (s.assertReset).code = 0#32 := rfl
@[simp] theorem State.assertReset_result16 (s : State) : (s.assertReset).result16 = 0#16 := rfl
@[simp] theorem State.assertReset_diag (s : State) : (s.assertReset).diag = ⟨0#4, 0#8, 0#8⟩ := rfl
@[simp] theorem State.assertReset_mem (s : State) : (s.assertReset).mem = [] := rfl
@[simp] theorem State.assertReset_cacheA (s : State) : (s.assertReset).cacheA = 0#8 := rfl
@[simp] theorem State.assertReset_cacheB (s : State) : (s.assertReset).cacheB = 0#8 := rfl
@[simp] theorem State.assertReset_sess (s : State) : (s.assertReset).sess = .none := rfl
@[simp] theorem State.assertReset_pq (s : State) : (s.assertReset).pq = [] := rfl
@[simp] theorem State.assertReset_latch (s : State) : (s.assertReset).latch = none := rfl
@[simp] theorem State.assertReset_stuck (s : State) : (s.assertReset).stuck = false := rfl
@[simp] theorem State.assertReset_inReset (s : State) : (s.assertReset).inReset = true := rfl
@[simp] theorem State.assertReset_faults (s : State) : (s.assertReset).faults = s.faults := rfl
@[simp] theorem State.assertReset_faultRecord (s : State) : (s.assertReset).faultRecord = [] := rfl
@[simp] theorem State.assertReset_history (s : State) : (s.assertReset).history = s.history := rfl
@[simp] theorem State.assertReset_bus (s : State) : (s.assertReset).bus = s.busAfterReset := rfl
@[simp] theorem State.assertReset_script (s : State) : (s.assertReset).script = s.script := rfl
@[simp] theorem State.assertReset_answers (s : State) : (s.assertReset).answers = s.answers := rfl
@[simp] theorem State.assertReset_reads (s : State) : (s.assertReset).reads = s.reads := rfl
@[simp] theorem State.assertReset_draws (s : State) : (s.assertReset).draws = if s.submitPending then s.draws + 1 else s.draws := rfl

/-! ### setCache -/

@[simp] theorem State.setCache_nBuf (s : State) (slot : Slot) (v : Byte) : (s.setCache slot v).nBuf = s.nBuf := by
  cases slot <;> rfl
@[simp] theorem State.setCache_status (s : State) (slot : Slot) (v : Byte) : (s.setCache slot v).status = s.status := by
  cases slot <;> rfl
@[simp] theorem State.setCache_device (s : State) (slot : Slot) (v : Byte) : (s.setCache slot v).device = s.device := by
  cases slot <;> rfl
@[simp] theorem State.setCache_code (s : State) (slot : Slot) (v : Byte) : (s.setCache slot v).code = s.code := by
  cases slot <;> rfl
@[simp] theorem State.setCache_result16 (s : State) (slot : Slot) (v : Byte) : (s.setCache slot v).result16 = s.result16 := by
  cases slot <;> rfl
@[simp] theorem State.setCache_diag (s : State) (slot : Slot) (v : Byte) : (s.setCache slot v).diag = s.diag := by
  cases slot <;> rfl
@[simp] theorem State.setCache_mem (s : State) (slot : Slot) (v : Byte) : (s.setCache slot v).mem = s.mem := by
  cases slot <;> rfl
@[simp] theorem State.setCache_sess (s : State) (slot : Slot) (v : Byte) : (s.setCache slot v).sess = s.sess := by
  cases slot <;> rfl
@[simp] theorem State.setCache_pq (s : State) (slot : Slot) (v : Byte) : (s.setCache slot v).pq = s.pq := by
  cases slot <;> rfl
@[simp] theorem State.setCache_latch (s : State) (slot : Slot) (v : Byte) : (s.setCache slot v).latch = s.latch := by
  cases slot <;> rfl
@[simp] theorem State.setCache_stuck (s : State) (slot : Slot) (v : Byte) : (s.setCache slot v).stuck = s.stuck := by
  cases slot <;> rfl
@[simp] theorem State.setCache_inReset (s : State) (slot : Slot) (v : Byte) : (s.setCache slot v).inReset = s.inReset := by
  cases slot <;> rfl
@[simp] theorem State.setCache_faults (s : State) (slot : Slot) (v : Byte) : (s.setCache slot v).faults = s.faults := by
  cases slot <;> rfl
@[simp] theorem State.setCache_faultRecord (s : State) (slot : Slot) (v : Byte) : (s.setCache slot v).faultRecord = s.faultRecord := by
  cases slot <;> rfl
@[simp] theorem State.setCache_history (s : State) (slot : Slot) (v : Byte) : (s.setCache slot v).history = s.history := by
  cases slot <;> rfl
@[simp] theorem State.setCache_bus (s : State) (slot : Slot) (v : Byte) : (s.setCache slot v).bus = s.bus := by
  cases slot <;> rfl
@[simp] theorem State.setCache_script (s : State) (slot : Slot) (v : Byte) : (s.setCache slot v).script = s.script := by
  cases slot <;> rfl
@[simp] theorem State.setCache_answers (s : State) (slot : Slot) (v : Byte) : (s.setCache slot v).answers = s.answers := by
  cases slot <;> rfl
@[simp] theorem State.setCache_reads (s : State) (slot : Slot) (v : Byte) : (s.setCache slot v).reads = s.reads := by
  cases slot <;> rfl
@[simp] theorem State.setCache_draws (s : State) (slot : Slot) (v : Byte) : (s.setCache slot v).draws = s.draws := by
  cases slot <;> rfl

/-! ### markReinit -/

@[simp] theorem State.markReinit_nBuf (s : State) : (s.markReinit).nBuf = s.nBuf := by
  unfold State.markReinit; split <;> rfl
@[simp] theorem State.markReinit_device (s : State) : (s.markReinit).device = s.device := by
  unfold State.markReinit; split <;> rfl
@[simp] theorem State.markReinit_code (s : State) : (s.markReinit).code = s.code := by
  unfold State.markReinit; split <;> rfl
@[simp] theorem State.markReinit_result16 (s : State) : (s.markReinit).result16 = s.result16 := by
  unfold State.markReinit; split <;> rfl
@[simp] theorem State.markReinit_diag (s : State) : (s.markReinit).diag = s.diag := by
  unfold State.markReinit; split <;> rfl
@[simp] theorem State.markReinit_mem (s : State) : (s.markReinit).mem = s.mem := by
  unfold State.markReinit; split <;> rfl
@[simp] theorem State.markReinit_cacheA (s : State) : (s.markReinit).cacheA = s.cacheA := by
  unfold State.markReinit; split <;> rfl
@[simp] theorem State.markReinit_cacheB (s : State) : (s.markReinit).cacheB = s.cacheB := by
  unfold State.markReinit; split <;> rfl
@[simp] theorem State.markReinit_sess (s : State) : (s.markReinit).sess = s.sess := by
  unfold State.markReinit; split <;> rfl
@[simp] theorem State.markReinit_pq (s : State) : (s.markReinit).pq = s.pq := by
  unfold State.markReinit; split <;> rfl
@[simp] theorem State.markReinit_latch (s : State) : (s.markReinit).latch = s.latch := by
  unfold State.markReinit; split <;> rfl
@[simp] theorem State.markReinit_stuck (s : State) : (s.markReinit).stuck = s.stuck := by
  unfold State.markReinit; split <;> rfl
@[simp] theorem State.markReinit_inReset (s : State) : (s.markReinit).inReset = s.inReset := by
  unfold State.markReinit; split <;> rfl
@[simp] theorem State.markReinit_history (s : State) : (s.markReinit).history = s.history := by
  unfold State.markReinit; split <;> rfl
@[simp] theorem State.markReinit_bus (s : State) : (s.markReinit).bus = s.bus := by
  unfold State.markReinit; split <;> rfl
@[simp] theorem State.markReinit_script (s : State) : (s.markReinit).script = s.script := by
  unfold State.markReinit; split <;> rfl
@[simp] theorem State.markReinit_answers (s : State) : (s.markReinit).answers = s.answers := by
  unfold State.markReinit; split <;> rfl
@[simp] theorem State.markReinit_reads (s : State) : (s.markReinit).reads = s.reads := by
  unfold State.markReinit; split <;> rfl
@[simp] theorem State.markReinit_draws (s : State) : (s.markReinit).draws = s.draws := by
  unfold State.markReinit; split <;> rfl

/-! ### landRead -/

@[simp] theorem State.landRead_nBuf (s : State) (n : Nat) (t : Transfer) : (s.landRead n t).nBuf = s.nBuf := by
  unfold State.landRead; split <;> rfl
@[simp] theorem State.landRead_status (s : State) (n : Nat) (t : Transfer) : (s.landRead n t).status = s.status := by
  unfold State.landRead; split <;> rfl
@[simp] theorem State.landRead_device (s : State) (n : Nat) (t : Transfer) : (s.landRead n t).device = s.device := by
  unfold State.landRead; split <;> rfl
@[simp] theorem State.landRead_code (s : State) (n : Nat) (t : Transfer) : (s.landRead n t).code = s.code := by
  unfold State.landRead; split <;> rfl
@[simp] theorem State.landRead_result16 (s : State) (n : Nat) (t : Transfer) : (s.landRead n t).result16 = s.result16 := by
  unfold State.landRead; split <;> rfl
@[simp] theorem State.landRead_diag (s : State) (n : Nat) (t : Transfer) : (s.landRead n t).diag = s.diag := by
  unfold State.landRead; split <;> rfl
@[simp] theorem State.landRead_cacheA (s : State) (n : Nat) (t : Transfer) : (s.landRead n t).cacheA = s.cacheA := by
  unfold State.landRead; split <;> rfl
@[simp] theorem State.landRead_cacheB (s : State) (n : Nat) (t : Transfer) : (s.landRead n t).cacheB = s.cacheB := by
  unfold State.landRead; split <;> rfl
@[simp] theorem State.landRead_sess (s : State) (n : Nat) (t : Transfer) : (s.landRead n t).sess = s.sess := by
  unfold State.landRead; split <;> rfl
@[simp] theorem State.landRead_pq (s : State) (n : Nat) (t : Transfer) : (s.landRead n t).pq = s.pq := by
  unfold State.landRead; split <;> rfl
@[simp] theorem State.landRead_latch (s : State) (n : Nat) (t : Transfer) : (s.landRead n t).latch = s.latch := by
  unfold State.landRead; split <;> rfl
@[simp] theorem State.landRead_stuck (s : State) (n : Nat) (t : Transfer) : (s.landRead n t).stuck = s.stuck := by
  unfold State.landRead; split <;> rfl
@[simp] theorem State.landRead_inReset (s : State) (n : Nat) (t : Transfer) : (s.landRead n t).inReset = s.inReset := by
  unfold State.landRead; split <;> rfl
@[simp] theorem State.landRead_faults (s : State) (n : Nat) (t : Transfer) : (s.landRead n t).faults = s.faults := by
  unfold State.landRead; split <;> rfl
@[simp] theorem State.landRead_faultRecord (s : State) (n : Nat) (t : Transfer) : (s.landRead n t).faultRecord = s.faultRecord := by
  unfold State.landRead; split <;> rfl
@[simp] theorem State.landRead_history (s : State) (n : Nat) (t : Transfer) : (s.landRead n t).history = s.history := by
  unfold State.landRead; split <;> rfl
@[simp] theorem State.landRead_bus (s : State) (n : Nat) (t : Transfer) : (s.landRead n t).bus = s.bus := by
  unfold State.landRead; split <;> rfl
@[simp] theorem State.landRead_script (s : State) (n : Nat) (t : Transfer) : (s.landRead n t).script = s.script := by
  unfold State.landRead; split <;> rfl
@[simp] theorem State.landRead_answers (s : State) (n : Nat) (t : Transfer) : (s.landRead n t).answers = s.answers := by
  unfold State.landRead; split <;> rfl
@[simp] theorem State.landRead_reads (s : State) (n : Nat) (t : Transfer) : (s.landRead n t).reads = s.reads := by
  unfold State.landRead; split <;> rfl

/-! ### landPort -/

@[simp] theorem State.landPort_nBuf (s : State) (slot : Slot) (t : Transfer) : (s.landPort slot t).nBuf = s.nBuf := by
  unfold State.landPort; split <;> simp
@[simp] theorem State.landPort_status (s : State) (slot : Slot) (t : Transfer) : (s.landPort slot t).status = s.status := by
  unfold State.landPort; split <;> simp
@[simp] theorem State.landPort_device (s : State) (slot : Slot) (t : Transfer) : (s.landPort slot t).device = s.device := by
  unfold State.landPort; split <;> simp
@[simp] theorem State.landPort_code (s : State) (slot : Slot) (t : Transfer) : (s.landPort slot t).code = s.code := by
  unfold State.landPort; split <;> simp
@[simp] theorem State.landPort_result16 (s : State) (slot : Slot) (t : Transfer) : (s.landPort slot t).result16 = s.result16 := by
  unfold State.landPort; split <;> simp
@[simp] theorem State.landPort_diag (s : State) (slot : Slot) (t : Transfer) : (s.landPort slot t).diag = s.diag := by
  unfold State.landPort; split <;> simp
@[simp] theorem State.landPort_sess (s : State) (slot : Slot) (t : Transfer) : (s.landPort slot t).sess = s.sess := by
  unfold State.landPort; split <;> simp
@[simp] theorem State.landPort_pq (s : State) (slot : Slot) (t : Transfer) : (s.landPort slot t).pq = s.pq := by
  unfold State.landPort; split <;> simp
@[simp] theorem State.landPort_latch (s : State) (slot : Slot) (t : Transfer) : (s.landPort slot t).latch = s.latch := by
  unfold State.landPort; split <;> simp
@[simp] theorem State.landPort_stuck (s : State) (slot : Slot) (t : Transfer) : (s.landPort slot t).stuck = s.stuck := by
  unfold State.landPort; split <;> simp
@[simp] theorem State.landPort_inReset (s : State) (slot : Slot) (t : Transfer) : (s.landPort slot t).inReset = s.inReset := by
  unfold State.landPort; split <;> simp
@[simp] theorem State.landPort_faults (s : State) (slot : Slot) (t : Transfer) : (s.landPort slot t).faults = s.faults := by
  unfold State.landPort; split <;> simp
@[simp] theorem State.landPort_faultRecord (s : State) (slot : Slot) (t : Transfer) : (s.landPort slot t).faultRecord = s.faultRecord := by
  unfold State.landPort; split <;> simp
@[simp] theorem State.landPort_history (s : State) (slot : Slot) (t : Transfer) : (s.landPort slot t).history = s.history := by
  unfold State.landPort; split <;> simp
@[simp] theorem State.landPort_bus (s : State) (slot : Slot) (t : Transfer) : (s.landPort slot t).bus = s.bus := by
  unfold State.landPort; split <;> simp
@[simp] theorem State.landPort_script (s : State) (slot : Slot) (t : Transfer) : (s.landPort slot t).script = s.script := by
  unfold State.landPort; split <;> simp
@[simp] theorem State.landPort_answers (s : State) (slot : Slot) (t : Transfer) : (s.landPort slot t).answers = s.answers := by
  unfold State.landPort; split <;> simp
@[simp] theorem State.landPort_reads (s : State) (slot : Slot) (t : Transfer) : (s.landPort slot t).reads = s.reads := by
  unfold State.landPort; split <;> simp

/-! ### completeFacade -/

@[simp] theorem State.completeFacade_nBuf (s : State) (c : Word) (op : BitVec 4) (reg v : Byte) : (s.completeFacade c op reg v).nBuf = s.nBuf := by
  unfold State.completeFacade; split <;> rfl
@[simp] theorem State.completeFacade_device (s : State) (c : Word) (op : BitVec 4) (reg v : Byte) : (s.completeFacade c op reg v).device = s.device := by
  unfold State.completeFacade; split <;> rfl
@[simp] theorem State.completeFacade_result16 (s : State) (c : Word) (op : BitVec 4) (reg v : Byte) : (s.completeFacade c op reg v).result16 = s.result16 := by
  unfold State.completeFacade; split <;> rfl
@[simp] theorem State.completeFacade_mem (s : State) (c : Word) (op : BitVec 4) (reg v : Byte) : (s.completeFacade c op reg v).mem = s.mem := by
  unfold State.completeFacade; split <;> rfl
@[simp] theorem State.completeFacade_cacheA (s : State) (c : Word) (op : BitVec 4) (reg v : Byte) : (s.completeFacade c op reg v).cacheA = s.cacheA := by
  unfold State.completeFacade; split <;> rfl
@[simp] theorem State.completeFacade_cacheB (s : State) (c : Word) (op : BitVec 4) (reg v : Byte) : (s.completeFacade c op reg v).cacheB = s.cacheB := by
  unfold State.completeFacade; split <;> rfl
@[simp] theorem State.completeFacade_sess (s : State) (c : Word) (op : BitVec 4) (reg v : Byte) : (s.completeFacade c op reg v).sess = s.sess := by
  unfold State.completeFacade; split <;> rfl
@[simp] theorem State.completeFacade_pq (s : State) (c : Word) (op : BitVec 4) (reg v : Byte) : (s.completeFacade c op reg v).pq = s.pq := by
  unfold State.completeFacade; split <;> rfl
@[simp] theorem State.completeFacade_stuck (s : State) (c : Word) (op : BitVec 4) (reg v : Byte) : (s.completeFacade c op reg v).stuck = s.stuck := by
  unfold State.completeFacade; split <;> rfl
@[simp] theorem State.completeFacade_inReset (s : State) (c : Word) (op : BitVec 4) (reg v : Byte) : (s.completeFacade c op reg v).inReset = s.inReset := by
  unfold State.completeFacade; split <;> rfl
@[simp] theorem State.completeFacade_faults (s : State) (c : Word) (op : BitVec 4) (reg v : Byte) : (s.completeFacade c op reg v).faults = s.faults := by
  unfold State.completeFacade; split <;> rfl
@[simp] theorem State.completeFacade_faultRecord (s : State) (c : Word) (op : BitVec 4) (reg v : Byte) : (s.completeFacade c op reg v).faultRecord = s.faultRecord := by
  unfold State.completeFacade; split <;> rfl
@[simp] theorem State.completeFacade_history (s : State) (c : Word) (op : BitVec 4) (reg v : Byte) : (s.completeFacade c op reg v).history = s.history := by
  unfold State.completeFacade; split <;> rfl
@[simp] theorem State.completeFacade_bus (s : State) (c : Word) (op : BitVec 4) (reg v : Byte) : (s.completeFacade c op reg v).bus = s.bus := by
  unfold State.completeFacade; split <;> rfl
@[simp] theorem State.completeFacade_script (s : State) (c : Word) (op : BitVec 4) (reg v : Byte) : (s.completeFacade c op reg v).script = s.script := by
  unfold State.completeFacade; split <;> rfl
@[simp] theorem State.completeFacade_answers (s : State) (c : Word) (op : BitVec 4) (reg v : Byte) : (s.completeFacade c op reg v).answers = s.answers := by
  unfold State.completeFacade; split <;> rfl
@[simp] theorem State.completeFacade_reads (s : State) (c : Word) (op : BitVec 4) (reg v : Byte) : (s.completeFacade c op reg v).reads = s.reads := by
  unfold State.completeFacade; split <;> rfl
@[simp] theorem State.completeFacade_draws (s : State) (c : Word) (op : BitVec 4) (reg v : Byte) : (s.completeFacade c op reg v).draws = s.draws := by
  unfold State.completeFacade; split <;> rfl

/-! ### setTx -/

@[simp] theorem State.setTx_nBuf (s : State) (i : Nat) (v : Byte) : (s.setTx i v).nBuf = s.nBuf := by
  unfold State.setTx; split <;> rfl
@[simp] theorem State.setTx_status (s : State) (i : Nat) (v : Byte) : (s.setTx i v).status = s.status := by
  unfold State.setTx; split <;> rfl
@[simp] theorem State.setTx_device (s : State) (i : Nat) (v : Byte) : (s.setTx i v).device = s.device := by
  unfold State.setTx; split <;> rfl
@[simp] theorem State.setTx_code (s : State) (i : Nat) (v : Byte) : (s.setTx i v).code = s.code := by
  unfold State.setTx; split <;> rfl
@[simp] theorem State.setTx_result16 (s : State) (i : Nat) (v : Byte) : (s.setTx i v).result16 = s.result16 := by
  unfold State.setTx; split <;> rfl
@[simp] theorem State.setTx_diag (s : State) (i : Nat) (v : Byte) : (s.setTx i v).diag = s.diag := by
  unfold State.setTx; split <;> rfl
@[simp] theorem State.setTx_cacheA (s : State) (i : Nat) (v : Byte) : (s.setTx i v).cacheA = s.cacheA := by
  unfold State.setTx; split <;> rfl
@[simp] theorem State.setTx_cacheB (s : State) (i : Nat) (v : Byte) : (s.setTx i v).cacheB = s.cacheB := by
  unfold State.setTx; split <;> rfl
@[simp] theorem State.setTx_sess (s : State) (i : Nat) (v : Byte) : (s.setTx i v).sess = s.sess := by
  unfold State.setTx; split <;> rfl
@[simp] theorem State.setTx_pq (s : State) (i : Nat) (v : Byte) : (s.setTx i v).pq = s.pq := by
  unfold State.setTx; split <;> rfl
@[simp] theorem State.setTx_latch (s : State) (i : Nat) (v : Byte) : (s.setTx i v).latch = s.latch := by
  unfold State.setTx; split <;> rfl
@[simp] theorem State.setTx_stuck (s : State) (i : Nat) (v : Byte) : (s.setTx i v).stuck = s.stuck := by
  unfold State.setTx; split <;> rfl
@[simp] theorem State.setTx_inReset (s : State) (i : Nat) (v : Byte) : (s.setTx i v).inReset = s.inReset := by
  unfold State.setTx; split <;> rfl
@[simp] theorem State.setTx_faults (s : State) (i : Nat) (v : Byte) : (s.setTx i v).faults = s.faults := by
  unfold State.setTx; split <;> rfl
@[simp] theorem State.setTx_faultRecord (s : State) (i : Nat) (v : Byte) : (s.setTx i v).faultRecord = s.faultRecord := by
  unfold State.setTx; split <;> rfl
@[simp] theorem State.setTx_history (s : State) (i : Nat) (v : Byte) : (s.setTx i v).history = s.history := by
  unfold State.setTx; split <;> rfl
@[simp] theorem State.setTx_bus (s : State) (i : Nat) (v : Byte) : (s.setTx i v).bus = s.bus := by
  unfold State.setTx; split <;> rfl
@[simp] theorem State.setTx_script (s : State) (i : Nat) (v : Byte) : (s.setTx i v).script = s.script := by
  unfold State.setTx; split <;> rfl
@[simp] theorem State.setTx_answers (s : State) (i : Nat) (v : Byte) : (s.setTx i v).answers = s.answers := by
  unfold State.setTx; split <;> rfl
@[simp] theorem State.setTx_reads (s : State) (i : Nat) (v : Byte) : (s.setTx i v).reads = s.reads := by
  unfold State.setTx; split <;> rfl
@[simp] theorem State.setTx_draws (s : State) (i : Nat) (v : Byte) : (s.setTx i v).draws = s.draws := by
  unfold State.setTx; split <;> rfl

/-! ### setTxWord -/

@[simp] theorem State.setTxWord_nBuf (s : State) (i : Nat) (v : Word) : (s.setTxWord i v).nBuf = s.nBuf := by
  unfold State.setTxWord; simp
@[simp] theorem State.setTxWord_status (s : State) (i : Nat) (v : Word) : (s.setTxWord i v).status = s.status := by
  unfold State.setTxWord; simp
@[simp] theorem State.setTxWord_device (s : State) (i : Nat) (v : Word) : (s.setTxWord i v).device = s.device := by
  unfold State.setTxWord; simp
@[simp] theorem State.setTxWord_code (s : State) (i : Nat) (v : Word) : (s.setTxWord i v).code = s.code := by
  unfold State.setTxWord; simp
@[simp] theorem State.setTxWord_result16 (s : State) (i : Nat) (v : Word) : (s.setTxWord i v).result16 = s.result16 := by
  unfold State.setTxWord; simp
@[simp] theorem State.setTxWord_diag (s : State) (i : Nat) (v : Word) : (s.setTxWord i v).diag = s.diag := by
  unfold State.setTxWord; simp
@[simp] theorem State.setTxWord_cacheA (s : State) (i : Nat) (v : Word) : (s.setTxWord i v).cacheA = s.cacheA := by
  unfold State.setTxWord; simp
@[simp] theorem State.setTxWord_cacheB (s : State) (i : Nat) (v : Word) : (s.setTxWord i v).cacheB = s.cacheB := by
  unfold State.setTxWord; simp
@[simp] theorem State.setTxWord_sess (s : State) (i : Nat) (v : Word) : (s.setTxWord i v).sess = s.sess := by
  unfold State.setTxWord; simp
@[simp] theorem State.setTxWord_pq (s : State) (i : Nat) (v : Word) : (s.setTxWord i v).pq = s.pq := by
  unfold State.setTxWord; simp
@[simp] theorem State.setTxWord_latch (s : State) (i : Nat) (v : Word) : (s.setTxWord i v).latch = s.latch := by
  unfold State.setTxWord; simp
@[simp] theorem State.setTxWord_stuck (s : State) (i : Nat) (v : Word) : (s.setTxWord i v).stuck = s.stuck := by
  unfold State.setTxWord; simp
@[simp] theorem State.setTxWord_inReset (s : State) (i : Nat) (v : Word) : (s.setTxWord i v).inReset = s.inReset := by
  unfold State.setTxWord; simp
@[simp] theorem State.setTxWord_faults (s : State) (i : Nat) (v : Word) : (s.setTxWord i v).faults = s.faults := by
  unfold State.setTxWord; simp
@[simp] theorem State.setTxWord_faultRecord (s : State) (i : Nat) (v : Word) : (s.setTxWord i v).faultRecord = s.faultRecord := by
  unfold State.setTxWord; simp
@[simp] theorem State.setTxWord_history (s : State) (i : Nat) (v : Word) : (s.setTxWord i v).history = s.history := by
  unfold State.setTxWord; simp
@[simp] theorem State.setTxWord_bus (s : State) (i : Nat) (v : Word) : (s.setTxWord i v).bus = s.bus := by
  unfold State.setTxWord; simp
@[simp] theorem State.setTxWord_script (s : State) (i : Nat) (v : Word) : (s.setTxWord i v).script = s.script := by
  unfold State.setTxWord; simp
@[simp] theorem State.setTxWord_answers (s : State) (i : Nat) (v : Word) : (s.setTxWord i v).answers = s.answers := by
  unfold State.setTxWord; simp
@[simp] theorem State.setTxWord_reads (s : State) (i : Nat) (v : Word) : (s.setTxWord i v).reads = s.reads := by
  unfold State.setTxWord; simp
@[simp] theorem State.setTxWord_draws (s : State) (i : Nat) (v : Word) : (s.setTxWord i v).draws = s.draws := by
  unfold State.setTxWord; simp

/-! ### windowWrite -/

@[simp] theorem State.windowWrite_nBuf (s : State) (off : Nat) (v : Word) : (s.windowWrite off v).nBuf = s.nBuf := by
  unfold State.windowWrite; split_ifs <;> simp
@[simp] theorem State.windowWrite_code (s : State) (off : Nat) (v : Word) : (s.windowWrite off v).code = s.code := by
  unfold State.windowWrite; split_ifs <;> simp
@[simp] theorem State.windowWrite_result16 (s : State) (off : Nat) (v : Word) : (s.windowWrite off v).result16 = s.result16 := by
  unfold State.windowWrite; split_ifs <;> simp
@[simp] theorem State.windowWrite_diag (s : State) (off : Nat) (v : Word) : (s.windowWrite off v).diag = s.diag := by
  unfold State.windowWrite; split_ifs <;> simp
@[simp] theorem State.windowWrite_cacheA (s : State) (off : Nat) (v : Word) : (s.windowWrite off v).cacheA = s.cacheA := by
  unfold State.windowWrite; split_ifs <;> simp
@[simp] theorem State.windowWrite_cacheB (s : State) (off : Nat) (v : Word) : (s.windowWrite off v).cacheB = s.cacheB := by
  unfold State.windowWrite; split_ifs <;> simp
@[simp] theorem State.windowWrite_sess (s : State) (off : Nat) (v : Word) : (s.windowWrite off v).sess = s.sess := by
  unfold State.windowWrite; split_ifs <;> simp
@[simp] theorem State.windowWrite_pq (s : State) (off : Nat) (v : Word) : (s.windowWrite off v).pq = s.pq := by
  unfold State.windowWrite; split_ifs <;> simp
@[simp] theorem State.windowWrite_latch (s : State) (off : Nat) (v : Word) : (s.windowWrite off v).latch = s.latch := by
  unfold State.windowWrite; split_ifs <;> simp
@[simp] theorem State.windowWrite_stuck (s : State) (off : Nat) (v : Word) : (s.windowWrite off v).stuck = s.stuck := by
  unfold State.windowWrite; split_ifs <;> simp
@[simp] theorem State.windowWrite_inReset (s : State) (off : Nat) (v : Word) : (s.windowWrite off v).inReset = s.inReset := by
  unfold State.windowWrite; split_ifs <;> simp
@[simp] theorem State.windowWrite_faults (s : State) (off : Nat) (v : Word) : (s.windowWrite off v).faults = s.faults := by
  unfold State.windowWrite; split_ifs <;> simp
@[simp] theorem State.windowWrite_faultRecord (s : State) (off : Nat) (v : Word) : (s.windowWrite off v).faultRecord = s.faultRecord := by
  unfold State.windowWrite; split_ifs <;> simp
@[simp] theorem State.windowWrite_history (s : State) (off : Nat) (v : Word) : (s.windowWrite off v).history = s.history := by
  unfold State.windowWrite; split_ifs <;> simp
@[simp] theorem State.windowWrite_bus (s : State) (off : Nat) (v : Word) : (s.windowWrite off v).bus = s.bus := by
  unfold State.windowWrite; split_ifs <;> simp
@[simp] theorem State.windowWrite_script (s : State) (off : Nat) (v : Word) : (s.windowWrite off v).script = s.script := by
  unfold State.windowWrite; split_ifs <;> simp
@[simp] theorem State.windowWrite_answers (s : State) (off : Nat) (v : Word) : (s.windowWrite off v).answers = s.answers := by
  unfold State.windowWrite; split_ifs <;> simp
@[simp] theorem State.windowWrite_reads (s : State) (off : Nat) (v : Word) : (s.windowWrite off v).reads = s.reads := by
  unfold State.windowWrite; split_ifs <;> simp
@[simp] theorem State.windowWrite_draws (s : State) (off : Nat) (v : Word) : (s.windowWrite off v).draws = s.draws := by
  unfold State.windowWrite; split_ifs <;> simp

/-- A fault recorded in both keeps the record within the faults (60_exceptions.md R188; log 23). -/
theorem State.recordFault_kept {s : State} (f : Fault) (h : s.faultRecord <:+ s.faults) :
    (s.recordFault f).faultRecord <:+ (s.recordFault f).faults := by
  obtain ⟨before, h⟩ := h
  exact ⟨before, by simp [← h]⟩

/-! ### The Bus Controller's side after a reset -/

/-- Idle, or in INIT: no submission is pending, so reset leaves the Bus Controller's side (70_reset_and_hazards.md R212). -/
theorem State.submitPending_eq_false {s : State} (h : ∀ l, s.latch = some l → l.step = .cfg ∨ l.step = .inst) :
    s.submitPending = false := by
  unfold State.submitPending
  split
  · rfl
  · rename_i l hl
    rcases h l hl with h | h <;> simp [h]

theorem State.busAfterReset_eq {s : State} (h : s.submitPending = false) : s.busAfterReset = s.bus := by
  simp [State.busAfterReset, h]

/-- Asserting reset with no submission pending: the Bus Controller's side and the draw counter stay. -/
theorem State.assertReset_eq {s : State} (h : s.submitPending = false) :
    s.assertReset =
      { State.resetWith s.nBuf with
        inReset := true
        faults := s.faults
        history := s.history
        bus := s.bus
        script := s.script
        answers := s.answers
        reads := s.reads
        draws := s.draws } := by
  simp [State.assertReset, State.busAfterReset, h]

end Sys2Proof.Machine
end

