-- ==== Sys2Proof/Laws/Session.lean ====
section
/-! SUPPORT. What the bus operations and the session can do, said once: the Bus Controller's primitives and a submission change
only `bus` and `draws`; a whole session submits its queue once and leaves no session. -/

namespace Sys2Proof.Machine

/-! ## The bus side changes only `bus` and `draws` -/

/-- One primitive changes only the bus side. -/
theorem onBus_frame (f : Nat → Transfer → Bus → Bus) (s : State) :
    ∃ b d, s.onBus f = { s with bus := b, draws := d } := by
  unfold State.onBus State.withPlan
  split <;> exact ⟨_, _, rfl⟩

/-- One primitive inside a submission answered `t`. -/
theorem onBus_planned {s : State} {t : Transfer} (hp : s.bus.plan = some t) (f : Nat → Transfer → Bus → Bus) :
    s.onBus f = { s with bus := f s.draws t s.bus, draws := s.draws + 1 } := by
  simp [State.onBus, State.withPlan, State.planInForce, hp]

theorem runPrim_frame (p : PrimWord) (s : State) : ∃ b d, s.runPrim p = { s with bus := b, draws := d } := by
  unfold State.runPrim
  split
  · exact onBus_frame _ s
  · exact onBus_frame _ s
  · exact onBus_frame _ s
  · exact onBus_frame _ s
  · exact ⟨s.bus, s.draws, rfl⟩

theorem runQueue_frame (ps : List PrimWord) (s : State) :
    ∃ b d, State.runQueue ps s = { s with bus := b, draws := d } := by
  induction ps generalizing s with
  | nil => exact ⟨s.bus, s.draws, rfl⟩
  | cons p ps ih =>
    obtain ⟨b, d, h⟩ := runPrim_frame p s
    rw [State.runQueue]
    split
    · exact ⟨b, d, h⟩
    · obtain ⟨b', d', h'⟩ := ih (s.runPrim p)
      exact ⟨b', d', by rw [h', h]⟩

/-- A submission changes only the bus side, and leaves none in progress. -/
theorem runSubmission_frame (ps : List PrimWord) (t : Transfer) (s : State) :
    ∃ b d, s.runSubmission ps t = { s with bus := b, draws := d } ∧ b.plan = none := by
  obtain ⟨b, d, h⟩ := runQueue_frame ps { s with bus := Bus.begin t }
  exact ⟨{ b with plan := none }, d, by simp only [State.runSubmission, h], rfl⟩

/-- What a BcSubmit changes besides the bus side: the answer is taken and the exchange recorded. -/
theorem submitted_frame (chan : Byte) (ps : List PrimWord) (t : Transfer) (s : State) :
    ∃ b d, s.submitted chan ps t =
      { s with
        answers := s.answers.tail
        history := s.history ++ [⟨.submit chan ps Config.timeoutMs, .transfer t⟩]
        bus := b
        draws := d } := by
  obtain ⟨b, d, h, -⟩ := runSubmission_frame ps t (s.takeReply (numReads ps + 1))
  exact ⟨b, d, by rw [State.submitted, h]; rfl⟩

/-! ## The session -/

/-- Appending words that fit the queue. -/
theorem sessAppendAll_fits {ps : List PrimWord} {s : State} (hs : s.sess = .opened)
    (hl : s.pq.length + ps.length ≤ s.qMax) : sessAppendAll ps s = .next { s with pq := s.pq ++ ps } := by
  induction ps generalizing s with
  | nil => simp [sessAppendAll]
  | cons p ps ih =>
    have h1 : s.pq.length < s.qMax := by
      simp only [List.length_cons] at hl
      omega
    have h2 : (s.pq ++ [p]).length + ps.length ≤ s.qMax := by
      simp only [List.length_cons, List.length_append, List.length_nil] at hl ⊢
      omega
    have h3 : sessAppend p s = .next { s with pq := s.pq ++ [p] } := by rw [sessAppend, if_pos hs, if_pos h1]
    rw [sessAppendAll, h3]
    exact (ih (s := { s with pq := s.pq ++ [p] }) hs h2).trans (by simp)

/-- The state after a whole session answered `t`. -/
def State.transacted (chan : Byte) (body : List PrimWord) (t : Transfer) (s : State) : State :=
  (State.submitted chan (queueOf body) t { s with sess := .submitted, pq := queueOf body }).release

/-- A session whose queue fits: it ends by its answer, or the answer is rejected. -/
theorem transact_eq {body : List PrimWord} {s : State} (chan : Byte) (hs : s.sess = .none)
    (hl : body.length < s.qMax) :
    transact chan body s =
      match s.nextTransfer (queueOf body) with
      | none => .refused .replyBreaksContract
      | some t => .next (t, s.transacted chan body t) := by
  have hfit : ([startWord] : List PrimWord).length + body.length ≤ s.qMax := by
    simp only [List.length_singleton]
    omega
  simp only [transact, sessOpen, hs, if_true, andThen]
  rw [sessAppendAll_fits (s := { s with sess := .opened, pq := [startWord] }) rfl hfit]
  simp only [sessExecute, if_true, andThen, bcSubmit]
  have hq : (([startWord] ++ body) ++ [stopWord] : List PrimWord) = queueOf body := rfl
  rw [hq]
  have hn : State.nextTransfer (queueOf body) { s with sess := .submitted, pq := queueOf body } =
      s.nextTransfer (queueOf body) := rfl
  rw [hn]
  cases s.nextTransfer (queueOf body) <;> rfl

/-- What a session changes: the answer is taken, the exchange recorded, the session gone. -/
theorem transacted_frame (chan : Byte) (body : List PrimWord) (t : Transfer) (s : State) :
    ∃ b d, s.transacted chan body t =
      { s with
        sess := .none
        pq := []
        answers := s.answers.tail
        history := s.history ++ [⟨.submit chan (queueOf body) Config.timeoutMs, .transfer t⟩]
        bus := b
        draws := d } := by
  obtain ⟨b, d, h⟩ := submitted_frame chan (queueOf body) t { s with sess := .submitted, pq := queueOf body }
  exact ⟨b, d, by rw [State.transacted, h]; rfl⟩

/-- A session whose answer keeps the contract runs to its release. -/
theorem transact_next {body : List PrimWord} {s : State} {t : Transfer} (chan : Byte) (hs : s.sess = .none)
    (hl : body.length < s.qMax) (ht : s.nextTransfer (queueOf body) = some t) :
    ∃ b d, transact chan body s = .next (t,
      { s with
        sess := .none
        pq := []
        answers := s.answers.tail
        history := s.history ++ [⟨.submit chan (queueOf body) Config.timeoutMs, .transfer t⟩]
        bus := b
        draws := d }) := by
  obtain ⟨b, d, h⟩ := transacted_frame chan body t s
  exact ⟨b, d, by rw [transact_eq chan hs hl, ht, ← h]⟩

/-- Everything a session can do: if it answers a next state, the session was free, the answer taken is one the
contract admits, and the state changed as `transacted_frame` says. -/
theorem transact_cases {chan : Byte} {body : List PrimWord} {s s' : State} {t : Transfer}
    (h : transact chan body s = .next (t, s')) :
    s.sess = .none ∧ s.nextTransfer (queueOf body) = some t ∧ s' = s.transacted chan body t := by
  have happ : ∀ (ps : List PrimWord) (u u' : State), u.sess = .opened → sessAppendAll ps u = .next u' →
      u' = { u with pq := u.pq ++ ps } := by
    intro ps
    induction ps with
    | nil =>
      intro u u' _ hu'
      cases hu'
      simp
    | cons p ps ih =>
      intro u u' hu hu'
      by_cases hq : u.pq.length < u.qMax
      · have h3 : sessAppend p u = .next { u with pq := u.pq ++ [p] } := by rw [sessAppend, if_pos hu, if_pos hq]
        rw [sessAppendAll, h3] at hu'
        exact (ih { u with pq := u.pq ++ [p] } u' hu hu').trans (by simp)
      · have h3 : sessAppend p u = .fault .queueFull := by rw [sessAppend, if_pos hu, if_neg hq]
        rw [sessAppendAll, h3] at hu'
        cases hu'
  by_cases hs : s.sess = .none
  · simp only [transact, sessOpen, hs, if_true, andThen] at h
    split at h
    · rename_i u hu
      have := happ body { s with sess := .opened, pq := [startWord] } u rfl hu
      subst this
      simp only [sessExecute, if_true, bcSubmit, andThen] at h
      have hn : State.nextTransfer (([startWord] ++ body) ++ [stopWord])
          { s with sess := .submitted, pq := ([startWord] ++ body) ++ [stopWord] } =
          s.nextTransfer (queueOf body) := rfl
      rw [hn] at h
      cases ht : s.nextTransfer (queueOf body) with
      | none => simp [ht] at h
      | some t' =>
        simp only [ht, Host.Outcome.next.injEq, Prod.mk.injEq] at h
        obtain ⟨rfl, rfl⟩ := h
        exact ⟨hs, rfl, rfl⟩
    · cases h
    · cases h
  · simp [transact, sessOpen, hs, andThen] at h

/-! ## Answers -/

/-- A free answer keeps the contract, for any queue that is not empty (40_session.md R108, R109). -/
theorem freeTransfer_legal {ps : List PrimWord} (hp : ps ≠ []) (n : Nat) :
    (freeTransfer ps n).legalFor ps = true := by
  have hpos : 0 < ps.length := List.length_pos_iff.mpr hp
  unfold freeTransfer Transfer.legalFor
  by_cases hc : Config.freeCode n = 0#32
  · simp [hc, freeRun]
  · simp [hc, Nat.mod_lt _ hpos]

/-- Every answer a BcSubmit takes keeps the contract (40_session.md R108, R109). -/
theorem nextTransfer_legal {ps : List PrimWord} {s : State} {t : Transfer} (hp : ps ≠ [])
    (h : s.nextTransfer ps = some t) : t.legalFor ps = true := by
  unfold State.nextTransfer at h
  split at h
  · cases h
    exact freeTransfer_legal hp _
  · split at h
    · cases h
      assumption
    · cases h
  · cases h
  · cases h

/-- What the success and failure contracts say (40_session.md R108, R109). -/
theorem legalFor_iff {ps : List PrimWord} {t : Transfer} :
    t.legalFor ps = true ↔
      (t.code = 0#32 → t.k = ps.length ∧ t.rx.length = numReads ps) ∧ (t.code ≠ 0#32 → t.k < ps.length) := by
  unfold Transfer.legalFor
  by_cases h : t.code = 0#32 <;> simp [h]

/-- Going on: if the whole answers a next state, so did the first part, and the second on its value. -/
theorem andThen_next {α β : Type} {r : Result α} {f : α → Result β} {b : β} (h : andThen r f = .next b) :
    ∃ a, r = .next a ∧ f a = .next b := by
  cases r with
  | next a => exact ⟨a, rfl, h⟩
  | fault e => cases h
  | refused e => cases h

@[simp] theorem andThen_next_eq {α β : Type} (a : α) (f : α → Result β) : andThen (.next a) f = f a := rfl

/-! ## The framing words -/

theorem readPrim_start : readPrim startWord = .start := by decide

theorem readPrim_stop : readPrim stopWord = .stop := by decide

theorem readPrim_rdAck : readPrim rdAckWord = .read false := by decide

theorem readPrim_rdNack : readPrim rdNackWord = .read true := by decide

theorem readPrim_wr (b : Byte) : readPrim (wrWord b) = .write b true := by
  revert b
  decide

theorem isRead_wr (b : Byte) : isRead (wrWord b) = false := by simp [isRead, readPrim_wr]

theorem numReads_writeQueue (addr : BitVec 7) (reg : Byte) (bytes : List Byte) :
    numReads (queueOf (writeBody addr reg bytes)) = 0 := by
  have h : (bytes.map wrWord).countP isRead = 0 := by
    rw [List.countP_eq_zero]
    intro p hp
    obtain ⟨b, -, rfl⟩ := List.mem_map.mp hp
    simp [isRead_wr]
  have h1 : isRead startWord = false := by decide
  have h2 : isRead stopWord = false := by decide
  simp [numReads, queueOf, writeBody, isRead_wr, h, h1, h2]

/-- A read queue of n ≥ 1 holds n RD words (41_transport.md R135). -/
theorem numReads_readQueue (addr : BitVec 7) (reg : Byte) {n : Nat} (hn : 1 ≤ n) :
    numReads (queueOf (readBody addr reg n)) = n := by
  have h1 : isRead startWord = false := by decide
  have h2 : isRead stopWord = false := by decide
  have h3 : isRead rdAckWord = true := by decide
  have h4 : isRead rdNackWord = true := by decide
  simp [numReads, queueOf, readBody, isRead_wr, h1, h2, h3, h4, List.countP_replicate]
  omega

theorem length_writeBody (addr : BitVec 7) (reg : Byte) (bytes : List Byte) :
    (writeBody addr reg bytes).length = bytes.length + 2 := by
  simp [writeBody]

theorem length_readBody (addr : BitVec 7) (reg : Byte) {n : Nat} (hn : 1 ≤ n) :
    (readBody addr reg n).length = n + 4 := by
  simp [readBody]
  omega

@[simp] theorem length_payload (s : State) (n : Nat) : (s.payload n).length = n := by simp [State.payload]

end Sys2Proof.Machine
end

