-- ==== Sys2Proof/Laws/Exec.lean ====
section
/-! SUPPORT. Everything an instruction can do, said once per instruction: if `exec` answers a next state, that state is one of those
listed, under the conditions listed. -/

namespace Sys2Proof.Machine

/-! ### The fields after a session, and after a primitive -/

@[simp] theorem State.transacted_nBuf (s : State) (c : Byte) (ps : List PrimWord) (t : Transfer) :
    (s.transacted c ps t).nBuf = s.nBuf := by
  obtain ⟨b, d, h⟩ := transacted_frame c ps t s
  rw [h]

@[simp] theorem State.transacted_status (s : State) (c : Byte) (ps : List PrimWord) (t : Transfer) :
    (s.transacted c ps t).status = s.status := by
  obtain ⟨b, d, h⟩ := transacted_frame c ps t s
  rw [h]

@[simp] theorem State.transacted_device (s : State) (c : Byte) (ps : List PrimWord) (t : Transfer) :
    (s.transacted c ps t).device = s.device := by
  obtain ⟨b, d, h⟩ := transacted_frame c ps t s
  rw [h]

@[simp] theorem State.transacted_code (s : State) (c : Byte) (ps : List PrimWord) (t : Transfer) :
    (s.transacted c ps t).code = s.code := by
  obtain ⟨b, d, h⟩ := transacted_frame c ps t s
  rw [h]

@[simp] theorem State.transacted_result16 (s : State) (c : Byte) (ps : List PrimWord) (t : Transfer) :
    (s.transacted c ps t).result16 = s.result16 := by
  obtain ⟨b, d, h⟩ := transacted_frame c ps t s
  rw [h]

@[simp] theorem State.transacted_diag (s : State) (c : Byte) (ps : List PrimWord) (t : Transfer) :
    (s.transacted c ps t).diag = s.diag := by
  obtain ⟨b, d, h⟩ := transacted_frame c ps t s
  rw [h]

@[simp] theorem State.transacted_mem (s : State) (c : Byte) (ps : List PrimWord) (t : Transfer) :
    (s.transacted c ps t).mem = s.mem := by
  obtain ⟨b, d, h⟩ := transacted_frame c ps t s
  rw [h]

@[simp] theorem State.transacted_cacheA (s : State) (c : Byte) (ps : List PrimWord) (t : Transfer) :
    (s.transacted c ps t).cacheA = s.cacheA := by
  obtain ⟨b, d, h⟩ := transacted_frame c ps t s
  rw [h]

@[simp] theorem State.transacted_cacheB (s : State) (c : Byte) (ps : List PrimWord) (t : Transfer) :
    (s.transacted c ps t).cacheB = s.cacheB := by
  obtain ⟨b, d, h⟩ := transacted_frame c ps t s
  rw [h]

@[simp] theorem State.transacted_sess (s : State) (c : Byte) (ps : List PrimWord) (t : Transfer) :
    (s.transacted c ps t).sess = .none := by
  obtain ⟨b, d, h⟩ := transacted_frame c ps t s
  rw [h]

@[simp] theorem State.transacted_pq (s : State) (c : Byte) (ps : List PrimWord) (t : Transfer) :
    (s.transacted c ps t).pq = [] := by
  obtain ⟨b, d, h⟩ := transacted_frame c ps t s
  rw [h]

@[simp] theorem State.transacted_latch (s : State) (c : Byte) (ps : List PrimWord) (t : Transfer) :
    (s.transacted c ps t).latch = s.latch := by
  obtain ⟨b, d, h⟩ := transacted_frame c ps t s
  rw [h]

@[simp] theorem State.transacted_stuck (s : State) (c : Byte) (ps : List PrimWord) (t : Transfer) :
    (s.transacted c ps t).stuck = s.stuck := by
  obtain ⟨b, d, h⟩ := transacted_frame c ps t s
  rw [h]

@[simp] theorem State.transacted_inReset (s : State) (c : Byte) (ps : List PrimWord) (t : Transfer) :
    (s.transacted c ps t).inReset = s.inReset := by
  obtain ⟨b, d, h⟩ := transacted_frame c ps t s
  rw [h]

@[simp] theorem State.transacted_faults (s : State) (c : Byte) (ps : List PrimWord) (t : Transfer) :
    (s.transacted c ps t).faults = s.faults := by
  obtain ⟨b, d, h⟩ := transacted_frame c ps t s
  rw [h]

@[simp] theorem State.transacted_faultRecord (s : State) (c : Byte) (ps : List PrimWord) (t : Transfer) :
    (s.transacted c ps t).faultRecord = s.faultRecord := by
  obtain ⟨b, d, h⟩ := transacted_frame c ps t s
  rw [h]

@[simp] theorem State.transacted_history (s : State) (c : Byte) (ps : List PrimWord) (t : Transfer) :
    (s.transacted c ps t).history = s.history ++ [⟨.submit c (queueOf ps) Config.timeoutMs, .transfer t⟩] := by
  obtain ⟨b, d, h⟩ := transacted_frame c ps t s
  rw [h]

@[simp] theorem State.transacted_script (s : State) (c : Byte) (ps : List PrimWord) (t : Transfer) :
    (s.transacted c ps t).script = s.script := by
  obtain ⟨b, d, h⟩ := transacted_frame c ps t s
  rw [h]

@[simp] theorem State.transacted_answers (s : State) (c : Byte) (ps : List PrimWord) (t : Transfer) :
    (s.transacted c ps t).answers = s.answers.tail := by
  obtain ⟨b, d, h⟩ := transacted_frame c ps t s
  rw [h]

@[simp] theorem State.transacted_reads (s : State) (c : Byte) (ps : List PrimWord) (t : Transfer) :
    (s.transacted c ps t).reads = s.reads := by
  obtain ⟨b, d, h⟩ := transacted_frame c ps t s
  rw [h]

@[simp] theorem State.onBus_nBuf (s : State) (f : Nat → Transfer → Bus → Bus) : (s.onBus f).nBuf = s.nBuf := by
  obtain ⟨b, d, h⟩ := onBus_frame f s
  rw [h]

@[simp] theorem State.onBus_status (s : State) (f : Nat → Transfer → Bus → Bus) : (s.onBus f).status = s.status := by
  obtain ⟨b, d, h⟩ := onBus_frame f s
  rw [h]

@[simp] theorem State.onBus_device (s : State) (f : Nat → Transfer → Bus → Bus) : (s.onBus f).device = s.device := by
  obtain ⟨b, d, h⟩ := onBus_frame f s
  rw [h]

@[simp] theorem State.onBus_code (s : State) (f : Nat → Transfer → Bus → Bus) : (s.onBus f).code = s.code := by
  obtain ⟨b, d, h⟩ := onBus_frame f s
  rw [h]

@[simp] theorem State.onBus_result16 (s : State) (f : Nat → Transfer → Bus → Bus) : (s.onBus f).result16 = s.result16 := by
  obtain ⟨b, d, h⟩ := onBus_frame f s
  rw [h]

@[simp] theorem State.onBus_diag (s : State) (f : Nat → Transfer → Bus → Bus) : (s.onBus f).diag = s.diag := by
  obtain ⟨b, d, h⟩ := onBus_frame f s
  rw [h]

@[simp] theorem State.onBus_mem (s : State) (f : Nat → Transfer → Bus → Bus) : (s.onBus f).mem = s.mem := by
  obtain ⟨b, d, h⟩ := onBus_frame f s
  rw [h]

@[simp] theorem State.onBus_cacheA (s : State) (f : Nat → Transfer → Bus → Bus) : (s.onBus f).cacheA = s.cacheA := by
  obtain ⟨b, d, h⟩ := onBus_frame f s
  rw [h]

@[simp] theorem State.onBus_cacheB (s : State) (f : Nat → Transfer → Bus → Bus) : (s.onBus f).cacheB = s.cacheB := by
  obtain ⟨b, d, h⟩ := onBus_frame f s
  rw [h]

@[simp] theorem State.onBus_sess (s : State) (f : Nat → Transfer → Bus → Bus) : (s.onBus f).sess = s.sess := by
  obtain ⟨b, d, h⟩ := onBus_frame f s
  rw [h]

@[simp] theorem State.onBus_pq (s : State) (f : Nat → Transfer → Bus → Bus) : (s.onBus f).pq = s.pq := by
  obtain ⟨b, d, h⟩ := onBus_frame f s
  rw [h]

@[simp] theorem State.onBus_latch (s : State) (f : Nat → Transfer → Bus → Bus) : (s.onBus f).latch = s.latch := by
  obtain ⟨b, d, h⟩ := onBus_frame f s
  rw [h]

@[simp] theorem State.onBus_stuck (s : State) (f : Nat → Transfer → Bus → Bus) : (s.onBus f).stuck = s.stuck := by
  obtain ⟨b, d, h⟩ := onBus_frame f s
  rw [h]

@[simp] theorem State.onBus_inReset (s : State) (f : Nat → Transfer → Bus → Bus) : (s.onBus f).inReset = s.inReset := by
  obtain ⟨b, d, h⟩ := onBus_frame f s
  rw [h]

@[simp] theorem State.onBus_faults (s : State) (f : Nat → Transfer → Bus → Bus) : (s.onBus f).faults = s.faults := by
  obtain ⟨b, d, h⟩ := onBus_frame f s
  rw [h]

@[simp] theorem State.onBus_faultRecord (s : State) (f : Nat → Transfer → Bus → Bus) : (s.onBus f).faultRecord = s.faultRecord := by
  obtain ⟨b, d, h⟩ := onBus_frame f s
  rw [h]

@[simp] theorem State.onBus_history (s : State) (f : Nat → Transfer → Bus → Bus) : (s.onBus f).history = s.history := by
  obtain ⟨b, d, h⟩ := onBus_frame f s
  rw [h]

@[simp] theorem State.onBus_script (s : State) (f : Nat → Transfer → Bus → Bus) : (s.onBus f).script = s.script := by
  obtain ⟨b, d, h⟩ := onBus_frame f s
  rw [h]

@[simp] theorem State.onBus_answers (s : State) (f : Nat → Transfer → Bus → Bus) : (s.onBus f).answers = s.answers := by
  obtain ⟨b, d, h⟩ := onBus_frame f s
  rw [h]

@[simp] theorem State.onBus_reads (s : State) (f : Nat → Transfer → Bus → Bus) : (s.onBus f).reads = s.reads := by
  obtain ⟨b, d, h⟩ := onBus_frame f s
  rw [h]

/-! ### The latch guards -/

theorem withLatch_next {s s' : State} {f : Latch → Result State} (h : s.withLatch f = .next s') :
    ∃ l, s.latch = some l ∧ f l = .next s' := by
  unfold State.withLatch at h
  split at h
  · cases h
  · exact ⟨_, by assumption, h⟩

theorem withXfer_next {s s' : State} {f : Latch → Result State} (h : s.withXfer f = .next s') :
    ∃ l, s.latch = some l ∧ l.step = .xfer ∧ f l = .next s' := by
  obtain ⟨l, hl, h⟩ := withLatch_next h
  split at h
  · exact ⟨l, hl, by assumption, h⟩
  · cases h

theorem bcAsk_cases {req : Request} {s s' : State} {c : Option Word} (h : bcAsk req s = .next (c, s')) :
    s.nextCode = some c ∧ s' = (s.takeReply 1).record req (Reply.ofCode c) := by
  unfold bcAsk at h
  split at h
  · cases h
  · rename_i c' hc
    simp only [Host.Outcome.next.injEq, Prod.mk.injEq] at h
    obtain ⟨rfl, rfl⟩ := h
    exact ⟨hc, rfl⟩

/-- A configure or install request whose answer is of its kind is taken. -/
theorem bcAsk_next {s : State} {c : Option Word} (req : Request) (h : s.nextCode = some c) :
    bcAsk req s = .next (c, (s.takeReply 1).record req (Reply.ofCode c)) := by
  simp [bcAsk, h]

theorem readPortBody_cases {reg : Byte} {slot : Slot} {d : Device} {s s' : State} {t : Transfer}
    (h : readPortBody reg slot d s = .next (t, s')) :
    s.sess = .none ∧ s.nextTransfer (queueOf (readBody d.addr reg 1)) = some t ∧
      s' = (s.transacted d.chan (readBody d.addr reg 1) t).landPort slot t := by
  obtain ⟨⟨t', s1⟩, h1, h2⟩ := andThen_next h
  obtain ⟨hs, ht, rfl⟩ := transact_cases h1
  simp only [Host.Outcome.next.injEq, Prod.mk.injEq] at h2
  obtain ⟨rfl, rfl⟩ := h2
  exact ⟨hs, ht, rfl⟩

/-! ### One lemma per command -/

theorem execWriteReg_cases {reg : Byte} {n : Nat} {s s' : State} (h : execWriteReg reg n s = .next s') :
    (s.status.busy = false ∧ s.nBuf < n ∧ s' = s.complete 0#32 .size) ∨
    (s.status.busy = false ∧ n ≤ s.nBuf ∧ s' = s.accept 2#4 reg (BitVec.ofNat 8 n) .xfer) ∨
    (s.status.busy = true ∧ ∃ l t, s.latch = some l ∧ l.step = .xfer ∧ s.sess = .none ∧
      s.nextTransfer (queueOf (writeBody l.ldev.addr reg (s.payload n))) = some t ∧
      s' = (s.transacted l.ldev.chan (writeBody l.ldev.addr reg (s.payload n)) t).complete t.code .none) := by
  unfold execWriteReg writeRegStep at h
  split at h
  · rename_i hb
    obtain ⟨l, hl, hx, h⟩ := withXfer_next h
    obtain ⟨⟨t, s1⟩, h1, h2⟩ := andThen_next h
    obtain ⟨hs, ht, rfl⟩ := transact_cases h1
    cases h2
    exact .inr (.inr ⟨hb, l, t, hl, hx, hs, ht, rfl⟩)
  · rename_i hb
    split at h <;> cases h
    · exact .inl ⟨by simpa using hb, by assumption, rfl⟩
    · exact .inr (.inl ⟨by simpa using hb, by omega, rfl⟩)

theorem execReadReg_cases {reg : Byte} {n : Nat} {s s' : State} (h : execReadReg reg n s = .next s') :
    (s.status.busy = false ∧ s.nBuf < n ∧ s' = s.complete 0#32 .size) ∨
    (s.status.busy = false ∧ n = 0 ∧ s' = s.complete 0#32 .none) ∨
    (s.status.busy = false ∧ 1 ≤ n ∧ n ≤ s.nBuf ∧ s' = s.accept 3#4 reg (BitVec.ofNat 8 n) .xfer) ∨
    (s.status.busy = true ∧ ∃ l t, s.latch = some l ∧ l.step = .xfer ∧ 1 ≤ n ∧ s.sess = .none ∧
      s.nextTransfer (queueOf (readBody l.ldev.addr reg n)) = some t ∧
      s' = ((s.transacted l.ldev.chan (readBody l.ldev.addr reg n) t).landRead n t).complete t.code .none) := by
  unfold execReadReg readRegStep at h
  split at h
  · rename_i hb
    obtain ⟨l, hl, hx, h⟩ := withXfer_next h
    split at h
    · cases h
    · obtain ⟨⟨t, s1⟩, h1, h2⟩ := andThen_next h
      obtain ⟨hs, ht, rfl⟩ := transact_cases h1
      cases h2
      exact .inr (.inr (.inr ⟨hb, l, t, hl, hx, by omega, hs, ht, rfl⟩))
  · rename_i hb
    have hb : s.status.busy = false := by simpa using hb
    split at h
    · cases h
      exact .inl ⟨hb, by assumption, rfl⟩
    · split at h <;> cases h
      · exact .inr (.inl ⟨hb, by assumption, rfl⟩)
      · exact .inr (.inr (.inl ⟨hb, by omega, by omega, rfl⟩))

theorem execInit_cases {s s' : State} (h : execInit s = .next s') :
    (s.status.busy = false ∧ s' = s.markReinit.accept 1#4 0#8 0#8 .cfg) ∨
    (s.status.busy = true ∧ ∃ l c, s.latch = some l ∧ s.nextCode = some c ∧
      ((l.step = .cfg ∧ s' = initAfterConfig l c
          ((s.takeReply 1).record (.config l.ldev.chan (cfgRecord l.ldev)) (Reply.ofCode c))) ∨
       (l.step = .inst ∧ s' = initAfterInstall c
          ((s.takeReply 1).record (.install l.ldev.chan instRecord) (Reply.ofCode c))))) := by
  unfold execInit initStep at h
  split at h
  · rename_i hb
    obtain ⟨l, hl, h⟩ := withLatch_next h
    split at h
    · obtain ⟨⟨c, s1⟩, h1, h2⟩ := andThen_next h
      obtain ⟨hc, rfl⟩ := bcAsk_cases h1
      cases h2
      exact .inr ⟨hb, l, c, hl, hc, .inl ⟨by assumption, rfl⟩⟩
    · obtain ⟨⟨c, s1⟩, h1, h2⟩ := andThen_next h
      obtain ⟨hc, rfl⟩ := bcAsk_cases h1
      cases h2
      exact .inr ⟨hb, l, c, hl, hc, .inr ⟨by assumption, rfl⟩⟩
    all_goals cases h
  · rename_i hb
    cases h
    exact .inl ⟨by simpa using hb, rfl⟩

theorem execWriteConfig_cases {reg v : Byte} {s s' : State} (h : execWriteConfig reg v s = .next s') :
    (s.status.busy = false ∧ s' = s.accept 4#4 reg v .xfer) ∨
    (s.status.busy = true ∧ ∃ l t, s.latch = some l ∧ l.step = .xfer ∧ s.sess = .none ∧
      s.nextTransfer (queueOf (writeBody l.ldev.addr reg [v])) = some t ∧
      s' = (s.transacted l.ldev.chan (writeBody l.ldev.addr reg [v]) t).completeFacade t.code 4#4 reg v) := by
  unfold execWriteConfig writeConfigStep at h
  split at h
  · rename_i hb
    obtain ⟨l, hl, hx, h⟩ := withXfer_next h
    obtain ⟨⟨t, s1⟩, h1, h2⟩ := andThen_next h
    obtain ⟨hs, ht, rfl⟩ := transact_cases h1
    cases h2
    exact .inr ⟨hb, l, t, hl, hx, hs, ht, rfl⟩
  · rename_i hb
    cases h
    exact .inl ⟨by simpa using hb, rfl⟩

theorem execReadPort_cases {reg : Byte} {slot : Slot} {s s' : State} (h : execReadPort reg slot s = .next s') :
    (s.status.busy = false ∧ s' = s.accept 5#4 reg (slotArg slot) .xfer) ∨
    (s.status.busy = true ∧ ∃ l t, s.latch = some l ∧ l.step = .xfer ∧ s.sess = .none ∧
      s.nextTransfer (queueOf (readBody l.ldev.addr reg 1)) = some t ∧
      s' = ((s.transacted l.ldev.chan (readBody l.ldev.addr reg 1) t).landPort slot t).completeFacade
        t.code 5#4 reg 0#8) := by
  unfold execReadPort readPortStep at h
  split at h
  · rename_i hb
    obtain ⟨l, hl, hx, h⟩ := withXfer_next h
    obtain ⟨⟨t, s1⟩, h1, h2⟩ := andThen_next h
    obtain ⟨hs, ht, rfl⟩ := readPortBody_cases h1
    cases h2
    exact .inr ⟨hb, l, t, hl, hx, hs, ht, rfl⟩
  · rename_i hb
    cases h
    exact .inl ⟨by simpa using hb, rfl⟩

theorem execReadBoth_cases {s s' : State} (h : execReadBoth s = .next s') :
    (s.status.busy = false ∧ s' = s.accept 6#4 0#8 0#8 .a) ∨
    (s.status.busy = true ∧ ∃ l t, s.latch = some l ∧ s.sess = .none ∧
      ((l.step = .a ∧ s.nextTransfer (queueOf (readBody l.ldev.addr 0x12#8 1)) = some t ∧
        s' = readBothAfterA l t ((s.transacted l.ldev.chan (readBody l.ldev.addr 0x12#8 1) t).landPort .portA t)) ∨
       (l.step = .b ∧ s.nextTransfer (queueOf (readBody l.ldev.addr 0x13#8 1)) = some t ∧
        s' = readBothAfterB t
          ((s.transacted l.ldev.chan (readBody l.ldev.addr 0x13#8 1) t).landPort .portB t)))) := by
  unfold execReadBoth readBothStep at h
  split at h
  · rename_i hb
    obtain ⟨l, hl, h⟩ := withLatch_next h
    split at h
    · obtain ⟨⟨t, s1⟩, h1, h2⟩ := andThen_next h
      obtain ⟨hs, ht, rfl⟩ := readPortBody_cases h1
      cases h2
      exact .inr ⟨hb, l, t, hl, hs, .inl ⟨by assumption, ht, rfl⟩⟩
    · obtain ⟨⟨t, s1⟩, h1, h2⟩ := andThen_next h
      obtain ⟨hs, ht, rfl⟩ := readPortBody_cases h1
      cases h2
      exact .inr ⟨hb, l, t, hl, hs, .inr ⟨by assumption, ht, rfl⟩⟩
    all_goals cases h
  · rename_i hb
    cases h
    exact .inl ⟨by simpa using hb, rfl⟩

/-- An aligned 4-byte Host read in the window. -/
theorem step_read {s : State} {off : Nat} {rest : List Event} (hs : s.script = .host (.read off 4) :: rest)
    (h4 : off % 4 = 0) (hw : off < 0x400) : step s = .next (State.hostRead off { s with script := rest }) := by
  have h1 : ¬(Access.read off 4).width ≠ 4 := by simp [Access.width]
  have h2 : ¬(Access.read off 4).offset % 4 ≠ 0 := by simpa [Access.offset] using h4
  have h3 : ¬Config.windowBytes ≤ (Access.read off 4).offset := by simpa [Access.offset, Config.windowBytes] using hw
  simp only [step, hs, runEvent]
  rw [hostAccess, if_neg h1, if_neg h2, if_neg h3]

/-- An aligned 4-byte Host write in the window. -/
theorem step_write {s : State} {off : Nat} {v : Word} {rest : List Event}
    (hs : s.script = .host (.write off 4 v) :: rest) (h4 : off % 4 = 0) (hw : off < 0x400) :
    step s = hostWrite off v { s with script := rest } := by
  have h1 : ¬(Access.write off 4 v).width ≠ 4 := by simp [Access.width]
  have h2 : ¬(Access.write off 4 v).offset % 4 ≠ 0 := by simpa [Access.offset] using h4
  have h3 : ¬Config.windowBytes ≤ (Access.write off 4 v).offset := by
    simpa [Access.offset, Config.windowBytes] using hw
  simp only [step, hs, runEvent]
  rw [hostAccess, if_neg h1, if_neg h2, if_neg h3]

/-- Everything a step can do: if it answers a next state, one of these holds. -/
theorem step_cases {s s' : State} (h : step s = .next s') :
    (s.engineMoves = true ∧ (s.status.busy = false ∨ s.stuck = true) ∧ s' = { s with script := s.script.tail }) ∨
    (∃ l i, s.running l i ∧ exec i { s with script := s.script.tail } = .next s') ∨
    (∃ off rest, s.script = .host (.read off 4) :: rest ∧ off % 4 = 0 ∧ off < 0x400 ∧
      s' = State.hostRead off { s with script := rest }) ∨
    (∃ off v rest, s.script = .host (.write off 4 v) :: rest ∧ off % 4 = 0 ∧ off < 0x400 ∧
      ((s.inReset = true ∧ s' = { s with script := rest }) ∨
       (s.inReset = false ∧ off = 0 ∧ s.status.busy = true ∧ s' = State.dropWrite { s with script := rest }) ∨
       (s.inReset = false ∧ off = 0 ∧ s.status.busy = false ∧ (∃ e, decodeCommand v = .error e) ∧
         s' = State.complete 0#32 .illegal { s with script := rest }) ∨
       (s.inReset = false ∧ off = 0 ∧ s.status.busy = false ∧
         ∃ i, decodeCommand v = .ok i ∧ exec i { s with script := rest } = .next s') ∨
       (s.inReset = false ∧ off ≠ 0 ∧ s' = State.windowWrite off v { s with script := rest }))) ∨
    (∃ p i rest, s.script = .prim p :: rest ∧ decodePrim p = .ok i ∧ exec i { s with script := rest } = .next s') ∨
    (∃ rest, s.script = .resetOn :: rest ∧ s' = State.assertReset { s with script := rest }) ∨
    (∃ rest, s.script = .resetOff :: rest ∧ s' = { s with script := rest, inReset := false }) := by
  have turn : ∀ {rest}, s.engineMoves = true → s.script.tail = rest →
      engineTurn { s with script := rest } = .next s' →
      (s.engineMoves = true ∧ (s.status.busy = false ∨ s.stuck = true) ∧ s' = { s with script := s.script.tail }) ∨
      (∃ l i, s.running l i ∧ exec i { s with script := s.script.tail } = .next s') := by
    rintro rest hm rfl h
    unfold engineTurn at h
    split at h
    · rename_i hb
      simp only [Bool.and_eq_true, Bool.not_eq_true'] at hb
      split at h
      · cases h
      · split at h
        · cases h
        · rename_i l hl _ i hi
          exact .inr ⟨l, i, ⟨hm, hb.1, hb.2, hl, hi⟩, h⟩
    · rename_i hb
      cases h
      refine .inl ⟨hm, ?_, rfl⟩
      simp only [Bool.and_eq_true, Bool.not_eq_true', not_and, Bool.not_eq_false] at hb
      cases hbusy : s.status.busy
      · exact .inl rfl
      · exact .inr (hb hbusy)
  unfold step at h
  split at h
  · rename_i hs
    have h' : engineTurn { s with script := s.script.tail } = .next s' := by
      have e : ({ s with script := s.script.tail } : State) = s := by
        rw [hs, List.tail_nil, ← hs]
      rw [e]
      exact h
    exact (turn (by simp [State.engineMoves, hs]) rfl h').imp id .inl
  · rename_i e rest hs
    cases e with
    | engine => exact (turn (by simp [State.engineMoves, hs]) (by simp [hs]) h).imp id .inl
    | host a =>
      simp only [runEvent, hostAccess] at h
      split at h
      · cases h
      split at h
      · cases h
      split at h
      · cases h
      rename_i hw ha ho
      simp only [ne_eq, not_not] at hw ha
      cases a with
      | read off w =>
        cases hw
        cases h
        exact .inr (.inr (.inl ⟨off, rest, hs, ha, by simpa [Access.offset, Config.windowBytes] using ho, rfl⟩))
      | write off w v =>
        cases hw
        refine .inr (.inr (.inr (.inl ⟨off, v, rest, hs, ha,
          by simpa [Access.offset, Config.windowBytes] using ho, ?_⟩)))
        simp only [hostWrite, issue] at h
        split at h
        · cases h
          exact .inl ⟨by assumption, rfl⟩
        rename_i hr
        have hr : s.inReset = false := by simpa using hr
        split at h
        · rename_i h0
          split at h
          · cases h
            exact .inr (.inl ⟨hr, h0, by assumption, rfl⟩)
          · rename_i hb
            have hb : s.status.busy = false := by simpa using hb
            split at h
            · cases h
              exact .inr (.inr (.inl ⟨hr, h0, hb, ⟨_, by assumption⟩, rfl⟩))
            · exact .inr (.inr (.inr (.inl ⟨hr, h0, hb, _, by assumption, h⟩)))
        · cases h
          exact .inr (.inr (.inr (.inr ⟨hr, by assumption, rfl⟩)))
    | prim p =>
      simp only [runEvent, primTurn] at h
      split at h
      · cases h
      · exact .inr (.inr (.inr (.inr (.inl ⟨p, _, rest, hs, by assumption, h⟩))))
    | resetOn =>
      cases h
      exact .inr (.inr (.inr (.inr (.inr (.inl ⟨rest, hs, rfl⟩)))))
    | resetOff =>
      cases h
      exact .inr (.inr (.inr (.inr (.inr (.inr ⟨rest, hs, rfl⟩)))))
    | foreign => cases h

/-- A command word never decodes to a primitive, nor a primitive word to a command. -/
theorem decodeCommand_not_prim {w : Word} {i : Instr} (h : decodeCommand w = .ok i) :
    i ≠ .start ∧ i ≠ .stop ∧ (∀ b, i ≠ .wr b) ∧ i ≠ .rdAck ∧ i ≠ .rdNack := by
  unfold decodeCommand at h
  split_ifs at h <;> cases h <;> simp

theorem decodePrim_prim {p : PrimWord} {i : Instr} (h : decodePrim p = .ok i) :
    i = .start ∨ i = .stop ∨ (∃ b, i = .wr b) ∨ i = .rdAck ∨ i = .rdNack := by
  unfold decodePrim at h
  split_ifs at h <;> cases h <;> simp

end Sys2Proof.Machine
end

