-- ==== Sys2Proof/Laws/Memory.lean ====
section
/-! SUPPORT. The laws of the buffer memory: read after write, and every memory operation keeps the canonical form. -/

namespace Sys2Proof.Machine

theorem read_of_lt_all {m : Memory} {a : Nat} (h : ∀ c ∈ m, a < c.1) : Memory.read m a = Memory.unlisted := by
  induction m with
  | nil => rfl
  | cons c m ih =>
    have hc := h c (by simp)
    rw [Memory.read, if_neg (by omega)]
    exact ih fun d hd => h d (by simp [hd])

theorem wf_cons {a : Nat} {v : Byte} {m : Memory} :
    Memory.wf ((a, v) :: m) = true ↔ v ≠ Memory.unlisted ∧ (∀ c ∈ m, a < c.1) ∧ Memory.wf m = true := by
  simp [Memory.wf, and_assoc]

/-- A written byte reads back; every other byte reads as before. -/
theorem read_write {m : Memory} (hm : Memory.wf m = true) (a b : Nat) (v : Byte) :
    Memory.read (Memory.write m a v) b = if b = a then v else Memory.read m b := by
  induction m with
  | nil =>
    by_cases hv : v = Memory.unlisted <;> by_cases hb : b = a <;> simp [Memory.write, Memory.read, hv, hb]
  | cons c m ih =>
    obtain ⟨d, w⟩ := c
    obtain ⟨-, hlt, hwf⟩ := wf_cons.mp hm
    have hlow : ∀ x, x < d → Memory.read ((d, w) :: m) x = Memory.unlisted := fun x hx =>
      read_of_lt_all fun e he => by
        rcases List.mem_cons.mp he with rfl | he
        · exact hx
        · exact hx.trans (hlt e he)
    have hd : Memory.read m d = Memory.unlisted := read_of_lt_all hlt
    simp only [Memory.write]
    by_cases h1 : a < d
    · by_cases hv : v = Memory.unlisted
      · by_cases hb : b = a <;> simp [h1, hv, hb, hlow a h1]
      · simp [h1, hv, Memory.read]
    · by_cases h2 : a = d
      · subst h2
        by_cases hv : v = Memory.unlisted <;> by_cases hb : b = a <;> simp [hv, hb, Memory.read, hd]
      · by_cases hb : b = d
        · subst hb
          simp [h1, h2, Memory.read, Ne.symm h2]
        · simp [h1, h2, hb, Memory.read, ih hwf]

theorem mem_of_mem_write {m : Memory} {a : Nat} {v : Byte} {c : Host.Cell} (h : c ∈ Memory.write m a v) :
    c.1 = a ∨ c ∈ m := by
  induction m with
  | nil =>
    simp only [Memory.write] at h
    split at h <;> simp_all
  | cons d m ih =>
    simp only [Memory.write] at h
    split at h
    · split at h
      · exact .inr h
      · rcases List.mem_cons.mp h with rfl | h
        · exact .inl rfl
        · exact .inr h
    · split at h
      · split at h
        · exact .inr (List.mem_cons_of_mem _ h)
        · rcases List.mem_cons.mp h with rfl | h
          · exact .inl rfl
          · exact .inr (List.mem_cons_of_mem _ h)
      · rcases List.mem_cons.mp h with rfl | h
        · exact .inr List.mem_cons_self
        · exact (ih h).imp id (List.mem_cons_of_mem _)

/-- A write keeps the canonical form. -/
theorem wf_write {m : Memory} (hm : Memory.wf m = true) (a : Nat) (v : Byte) :
    Memory.wf (Memory.write m a v) = true := by
  induction m with
  | nil =>
    simp only [Memory.write]
    split <;> simp_all [Memory.wf]
  | cons c m ih =>
    obtain ⟨d, w⟩ := c
    obtain ⟨hw, hlt, hwf⟩ := wf_cons.mp hm
    simp only [Memory.write]
    by_cases h1 : a < d
    · by_cases hv : v = Memory.unlisted
      · simpa [h1, hv] using hm
      · rw [if_pos h1, if_neg hv]
        refine wf_cons.mpr ⟨hv, fun e he => ?_, hm⟩
        rcases List.mem_cons.mp he with rfl | he
        · exact h1
        · exact h1.trans (hlt e he)
    · rw [if_neg h1]
      by_cases h2 : a = d
      · subst h2
        by_cases hv : v = Memory.unlisted
        · simpa [hv] using hwf
        · rw [if_pos rfl, if_neg hv]
          exact wf_cons.mpr ⟨hv, hlt, hwf⟩
      · rw [if_neg h2]
        refine wf_cons.mpr ⟨hw, fun e he => ?_, ih hwf⟩
        rcases mem_of_mem_write he with h | h
        · omega
        · exact hlt e h

/-- Writing bytes keeps the canonical form. -/
theorem wf_writeBytes {m : Memory} (hm : Memory.wf m = true) (a : Nat) (vs : List Byte) :
    Memory.wf (Memory.writeBytes m a vs) = true := by
  induction vs generalizing m a with
  | nil => exact hm
  | cons v vs ih => exact ih (wf_write hm a v) (a + 1)

/-- What reads back after writing bytes at rising addresses. -/
theorem read_writeBytes {m : Memory} (hm : Memory.wf m = true) (a b : Nat) (vs : List Byte) :
    Memory.read (Memory.writeBytes m a vs) b =
      if a ≤ b then (vs[b - a]?).getD (Memory.read m b) else Memory.read m b := by
  induction vs generalizing m a with
  | nil => simp [Memory.writeBytes]
  | cons v vs ih =>
    rw [Memory.writeBytes, ih (wf_write hm a v), read_write hm]
    by_cases h1 : a + 1 ≤ b
    · obtain ⟨k, rfl⟩ : ∃ k, b = a + 1 + k := ⟨b - (a + 1), by omega⟩
      have e1 : a + 1 + k - (a + 1) = k := by omega
      have e2 : a + 1 + k - a = k + 1 := by omega
      rw [if_pos h1, if_neg (by omega), if_pos (by omega), e1, e2, List.getElem?_cons_succ]
    · rw [if_neg h1]
      by_cases h2 : b = a
      · subst h2
        simp
      · rw [if_neg h2, if_neg (by omega)]

theorem mem_of_mem_writeBytes {m : Memory} {a : Nat} {vs : List Byte} {c : Host.Cell}
    (h : c ∈ Memory.writeBytes m a vs) : (a ≤ c.1 ∧ c.1 < a + vs.length) ∨ c ∈ m := by
  induction vs generalizing m a with
  | nil => exact .inr h
  | cons v vs ih =>
    rcases ih h with h | h
    · left
      simp only [List.length_cons]
      omega
    · rcases mem_of_mem_write h with h | h
      · left
        simp [h]
      · exact .inr h

/-- The memory at reset is canonical. -/
theorem wf_reset : Memory.wf State.reset.mem = true := rfl

end Sys2Proof.Machine
end

