-- ==== Sys2Proof/Laws/PerInstr.lean ====
section
/-! SUPPORT. A statement about each instruction as syntax: the reserved bits of its word are 0 (30_encoding.md R79, R90). -/

namespace Sys2Proof.Laws.ReservedBitsClear

/-- RSV0 and RSV1 of a command word, or RSV of a primitive word, are 0. -/
def Statement (i : Instr) : Prop :=
  match encode i with
  | .command w => cmdRsv0 w = 0#4 ∧ cmdRsv1 w = 0#8
  | .primitive p => p.extractLsb' 9 3 = 0#3

theorem init : Statement .init := ⟨cmdRsv0_commandWord _ _ _, cmdRsv1_commandWord _ _ _⟩

theorem writeReg (reg : Byte) (size : Nat) : Statement (.writeReg reg size) :=
  ⟨cmdRsv0_commandWord _ _ _, cmdRsv1_commandWord _ _ _⟩

theorem readReg (reg : Byte) (size : Nat) : Statement (.readReg reg size) :=
  ⟨cmdRsv0_commandWord _ _ _, cmdRsv1_commandWord _ _ _⟩

theorem writeConfig (reg value : Byte) : Statement (.writeConfig reg value) :=
  ⟨cmdRsv0_commandWord _ _ _, cmdRsv1_commandWord _ _ _⟩

theorem readPort (reg : Byte) (slot : Slot) : Statement (.readPort reg slot) :=
  ⟨cmdRsv0_commandWord _ _ _, cmdRsv1_commandWord _ _ _⟩

theorem readBoth : Statement .readBoth := ⟨cmdRsv0_commandWord _ _ _, cmdRsv1_commandWord _ _ _⟩

theorem start : Statement .start := by
  simp only [Statement, encode]
  decide

theorem stop : Statement .stop := by
  simp only [Statement, encode]
  decide

theorem wr (data : Byte) : Statement (.wr data) := by
  simp only [Statement, encode]
  revert data
  decide

theorem rdAck : Statement .rdAck := by
  simp only [Statement, encode]
  decide

theorem rdNack : Statement .rdNack := by
  simp only [Statement, encode]
  decide

end Sys2Proof.Laws.ReservedBitsClear
end

