-- ==== Sys2Proof/Tests/Slice0.lean ====
section
/-! SUPPORT. The model's own tests, the expected results taken from spec/95_test_vectors.md and the encodings of
spec/30_encoding.md, and for every statement with hypotheses a witness that meets them. -/

namespace Sys2Proof.Tests

open Sys2Proof Sys2Proof.Machine

/-! ## Helpers -/

/-- The vectors' S0, with N_BUF = 4: reset, then DEVICE = 0x00000020. -/
def s0 : State := { State.resetWith 4 with device := Device.ofWord 0x00000020#32 }

/-- The vectors' S1: S0 after a successful INIT, STATUS = 0x202. -/
def s1 : State := { s0 with status := { s0.status with done := true, inst := true } }

/-- S1 with a command in progress and the Bus Controller's answers supplied. -/
def busyOn (op : BitVec 4) (reg arg : Byte) (step : SubStep) (answers : List Reply) : State :=
  { s1 with
    status := { s1.status with busy := true, done := false }
    latch := some ⟨op, reg, arg, s1.device, step⟩
    answers := answers }

/-- A submission in progress at primitive `k` with its answer. -/
def onWire (k : Nat) (held : Bool) (t : Transfer) : State := { s1 with bus := ⟨some t, k, [], [], 0#32, held⟩ }

/-- Part of the next state. -/
def look {α : Type} (r : Result State) (f : State → α) : Option α :=
  match r with
  | .next s => some (f s)
  | .fault _ => none
  | .refused _ => none

/-- The reason of a refusal. -/
def why (r : Result State) : Option Refusal :=
  match r with
  | .next _ => none
  | .fault _ => none
  | .refused e => some e

/-- The queue of the newest request. -/
def State.lastQueue (s : State) : List PrimWord :=
  match s.history.getLast? with
  | some ⟨.submit _ q _, _⟩ => q
  | _ => []

/-- A Host write as the next event. -/
def writing (off : Nat) (v : Word) (s : State) : State := { s with script := [.host (.write off 4 v)] }

/-- A Host read as the next event. -/
def reading (off : Nat) (s : State) : State := { s with script := [.host (.read off 4)] }

/-! ## Well-formedness: SIZE is an 8-bit field -/

theorem test_writeReg_size_256_ill_formed : Instr.wellFormed (.writeReg 0x00 256) = false := by decide

theorem test_readReg_size_256_ill_formed : Instr.wellFormed (.readReg 0x00 256) = false := by decide

theorem test_size_255_well_formed :
    Instr.wellFormed (.writeReg 0x00 255) = true ∧ Instr.wellFormed (.readReg 0x00 255) = true := by decide

/-! ## Decoding: words written out from 30_encoding.md R75, R80-R83, R88, R89 -/

/-- Format N: RSV1, ARG, REG and RSV0 all 0, OP 1 and 6. -/
theorem test_decode_format_n :
    decodedInstr (decodeCommand 0b00000000_00000000_00000000_0000_0001#32) = some .init ∧
    decodedInstr (decodeCommand 0b00000000_00000000_00000000_0000_0110#32) = some .readBoth := by decide

/-- Format T: SIZE in bits 23:16, REG in bits 15:8, OP 2 and 3. -/
theorem test_decode_format_t :
    decodedInstr (decodeCommand 0b00000000_11111111_00010100_0000_0010#32) = some (.writeReg 0x14 255) ∧
    decodedInstr (decodeCommand 0b00000000_00000011_00010010_0000_0011#32) = some (.readReg 0x12 3) := by decide

/-- Format C: VALUE in bits 23:16, REG in bits 15:8, OP 4. -/
theorem test_decode_format_c :
    decodedInstr (decodeCommand 0b00000000_00100000_00001010_0000_0100#32) = some (.writeConfig 0x0A 0x20) := by
  decide

/-- Format P: SLOT in bit 16, REG in bits 15:8, OP 5. -/
theorem test_decode_format_p :
    decodedInstr (decodeCommand 0b00000000_00000000_00010010_0000_0101#32) = some (.readPort 0x12 .portA) ∧
    decodedInstr (decodeCommand 0b00000000_00000001_00010011_0000_0101#32) = some (.readPort 0x13 .portB) := by
  decide

/-- Primitives: KIND in bits 15:12, A in bit 8, DATA in bits 7:0. -/
theorem test_decode_primitives :
    decodedInstr (decodePrim 0b0001_000_0_00000000#16) = some .start ∧
    decodedInstr (decodePrim 0b0010_000_0_00000000#16) = some .stop ∧
    decodedInstr (decodePrim 0b0011_000_1_01000000#16) = some (.wr 0x40) ∧
    decodedInstr (decodePrim 0b0100_000_0_00000000#16) = some .rdAck ∧
    decodedInstr (decodePrim 0b0100_000_1_00000000#16) = some .rdNack := by decide

/-- WR without the acknowledgement check, a reserved bit, KIND 0 and KIND 15 are no primitive (R90). -/
theorem test_decode_reserved_primitives :
    [0x3040#16, 0x1001#16, 0x4001#16, 0x0000#16, 0xF000#16].map (fun p => decodedInstr (decodePrim p)) =
      [none, none, none, none, none] := by decide

/-- Vectors D-1 to D-9: no instruction. -/
theorem test_decode_illegal :
    [0x00000000#32, 0x00000007#32, 0x0000000F#32, 0xFFFFFFFF#32, 0x01000002#32, 0x00000012#32, 0x00000101#32,
      0x00010006#32, 0x00021205#32].map (fun w => (decodedInstr (decodeCommand w)).isNone) =
      [true, true, true, true, true, true, true, true, true] := by decide

/-- Vectors A-3 and A-4: the address bytes, and bit 7 of DEVICE ignored. -/
theorem test_address_bytes :
    addrWrite 0x7F = 0xFE ∧ addrRead 0x7F = 0xFF ∧ (Device.ofWord 0x000000A0#32).word = 0x00000020#32 ∧
    addrRead (Device.ofWord 0x000000A0#32).addr = 0x41 := by decide

/-- The words a host looks at are run from reset as the first instruction. -/
theorem test_fetch_word :
    look (step (State.reset.withFetchWord 32 0x00021402)) (·.latch) =
      some (some ⟨2#4, 0x14, 0x02, ⟨0, 0, 0, 0⟩, .xfer⟩) ∧
    look (step (State.reset.withFetchWord 16 0x3140)) (·.nBuf) = some 255 := by decide

/-! ## INIT -/

/-- Vector I-2: a failed configure ends INIT, STATUS 0x006 (INST kept 0), DIAG 0x00000001. -/
theorem test_init_configure_fails :
    look (exec .init { busyOn 1#4 0 0 .cfg [.code 5#32] with status := { Status.zero with busy := true } })
      (fun s => (s.status.word, s.code, s.diag.word, s.history.length)) =
      some (0x006#32, 5#32, 0x00000001#32, 1) := by decide

/-- Vector I-4: re-initialisation sets REINIT and records the model's fault at acceptance. -/
theorem test_init_again :
    look (step (writing 0x000 0x00000001#32 s1)) (fun s => (s.status.word, s.faults, s.faultRecord)) =
      some (0x601#32, [.reinitUndefined], [.reinitUndefined]) := by decide

/-- R188 and R211: reset empties the record of its table, and the fault is never cleared, so no state is final. -/
theorem test_fault_outlives_reset :
    look (step { s1 with faults := [.reinitUndefined], faultRecord := [.reinitUndefined], script := [.resetOn] })
      (fun s => (s.faults, s.faultRecord, s.final)) = some ([.reinitUndefined], [], false) := by decide

/-! ## WRITE_REG and READ_REG -/

/-- Vector W-3: the payload bytes follow the register byte. -/
theorem test_writeReg_queue :
    look (exec (.writeReg 0x14 2)
      { busyOn 2#4 0x14 2 .xfer [.transfer ⟨0#32, 6, []⟩] with mem := [(0x100, 0xAA), (0x101, 0xBB)] })
      (fun s => (s.status.word, State.lastQueue s)) =
      some (0x202#32, [0x1000#16, 0x3140#16, 0x3114#16, 0x31AA#16, 0x31BB#16, 0x2000#16]) := by decide

/-- Vector W-5: the address byte not acknowledged; the framer writes no DIAG. A STOP may follow on the wire. -/
theorem test_writeReg_nack :
    look (exec (.writeReg 0x14 2) (busyOn 2#4 0x14 2 .xfer [.transfer ⟨7#32, 1, []⟩]))
      (fun s => (s.status.word, s.code, s.diag.word, s.bus.wire.take 2)) =
      some (0x206#32, 7#32, 0#32, [.start, .write 0x40]) := by decide

/-- Vector R-3: two bytes into RXBUF[0..2), RXBUF[2] and RXBUF[3] kept. -/
theorem test_readReg_bytes :
    look (exec (.readReg 0x12 2)
      { busyOn 3#4 0x12 2 .xfer [.transfer ⟨0#32, 8, [0xAA, 0x55]⟩] with
        mem := [(0x200, 0x11), (0x201, 0x22), (0x202, 0x33), (0x203, 0x44)] })
      (fun s => (s.windowRead 0x200, State.lastQueue s)) =
      some (0x443355AA#32,
        [0x1000#16, 0x3140#16, 0x3112#16, 0x1000#16, 0x3141#16, 0x4000#16, 0x4100#16, 0x2000#16]) := by decide

/-- Vector R-5: a failed read keeps the bytes from index n on. -/
theorem test_readReg_fails :
    look (exec (.readReg 0x12 2)
      { busyOn 3#4 0x12 2 .xfer [.transfer ⟨9#32, 4, []⟩] with mem := [(0x202, 0x33), (0x203, 0x44)] })
      (fun s => (s.status.word, s.code)) = some (0x206#32, 9#32) := by decide

/-! ## WRITE_CONFIG, READ_PORT, READ_BOTH -/

/-- Example E1, vector C-1: 0xFF to register 0x00 of device 0x20. -/
theorem test_writeConfig_queue :
    look (exec (.writeConfig 0x00 0xFF) (busyOn 4#4 0x00 0xFF .xfer [.transfer ⟨0#32, 5, []⟩]))
      (fun s => (s.status.word, State.lastQueue s)) =
      some (0x202#32, [0x1000#16, 0x3140#16, 0x3100#16, 0x31FF#16, 0x2000#16]) := by decide

/-- Vector C-3: DIAG holds opcode, register and value. -/
theorem test_writeConfig_diag :
    look (exec (.writeConfig 0x0A 0x20) (busyOn 4#4 0x0A 0x20 .xfer [.transfer ⟨3#32, 2, []⟩]))
      (fun s => (s.status.word, s.code, s.diag.word)) = some (0x206#32, 3#32, 0x00200A04#32) := by decide

/-- Vector P-2: slot B, CACHE_A kept. -/
theorem test_readPort_b :
    look (exec (.readPort 0x13 .portB)
      { busyOn 5#4 0x13 1 .xfer [.transfer ⟨0#32, 7, [0x55]⟩] with cacheA := 0x0A, cacheB := 0x0B })
      (fun s => (s.rxByte 0, s.cacheA, s.cacheB)) = some (0x55, 0x0A, 0x55) := by decide

/-- Vector P-3: a failure keeps both slots. -/
theorem test_readPort_fails :
    look (exec (.readPort 0x12 .portA)
      { busyOn 5#4 0x12 0 .xfer [.transfer ⟨3#32, 1, []⟩] with cacheA := 0x0A, cacheB := 0x0B })
      (fun s => (s.cacheA, s.cacheB, s.status.word, s.diag.word)) =
      some (0x0A, 0x0B, 0x206#32, 0x00001205#32) := by decide

/-- Example E2: the port B step with CACHE_A = 0xAA. -/
theorem test_readBoth_combines :
    look (exec .readBoth
      { busyOn 6#4 0 0 .b [.transfer ⟨0#32, 7, [0x55]⟩] with cacheA := 0xAA })
      (fun s => (s.windowRead 0x010, s.rxByte 0, s.cacheB, s.status.word)) =
      some (0x000055AA#32, 0x55, 0x55, 0x202#32) := by decide

/-- Vector B-2: a failed port A read ends the command after one request. -/
theorem test_readBoth_a_fails :
    look (exec .readBoth (busyOn 6#4 0 0 .a [.transfer ⟨3#32, 1, []⟩]))
      (fun s => (s.status.word, s.diag.word, s.history.length, s.latch)) =
      some (0x206#32, 0x00001206#32, 1, none) := by decide

/-! ## Primitives (40_session.md R111-R115) -/

/-- A START of a session that holds the bus is a repeated START. -/
theorem test_start_repeated :
    look (exec .start (onWire 3 true ⟨0#32, 7, [0xAA]⟩)) (fun s => (s.bus.wire, s.bus.k)) =
      some ([.restart], 4) := by decide

/-- STOP releases the bus. -/
theorem test_stop_releases :
    look (exec .stop (onWire 6 true ⟨0#32, 7, [0xAA]⟩)) (fun s => (s.bus.wire, s.bus.held)) =
      some ([.stop], false) := by decide

/-- A byte not acknowledged fails the submission there. -/
theorem test_wr_nack :
    look (exec (.wr 0x40) (onWire 1 true ⟨7#32, 1, []⟩)) (fun s => (s.bus.wire.head?, s.bus.code, s.bus.k)) =
      some (some (.write 0x40), 7#32, 1) := by decide

/-- RD ACK takes the next byte of the answer. -/
theorem test_rdAck_byte :
    look (exec .rdAck (onWire 5 true ⟨0#32, 8, [0xAA, 0x55]⟩)) (fun s => (s.bus.rx, s.bus.wire)) =
      some ([0xAA], [.read false]) := by decide

/-- RD NACK takes the next byte of the answer and sends a NACK. -/
theorem test_rdNack_byte :
    look (exec .rdNack (onWire 5 true ⟨0#32, 7, [0x3C]⟩)) (fun s => (s.bus.rx, s.bus.wire)) =
      some ([0x3C], [.read true]) := by decide

/-! ## The host window -/

/-- Vectors D-18 and D-14: ILLEGAL before SIZE. -/
theorem test_check_order :
    look (step (writing 0x000 0x01050002#32 s1)) (fun s => s.status.word) = some 0x216#32 ∧
    look (step (writing 0x000 0x00050002#32 s1)) (fun s => s.status.word) = some 0x226#32 := by decide

/-- Vectors H-1 and H-3: write 1 to clear. -/
theorem test_status_write :
    look (step (writing 0x004 0x00000002#32 { s1 with status := ⟨false, true, false, .none, true, true, true⟩ }))
      (fun s => s.status.word) = some 0x700#32 ∧
    look (step (writing 0x004 0xFFFFFFFF#32 { s1 with status := ⟨false, true, false, .none, true, true, true⟩ }))
      (fun s => s.status.word) = some 0x200#32 := by decide

/-- Vectors H-5 and H-6: dropped writes. -/
theorem test_overrun :
    look (step (writing 0x000 0x00FF0004#32 (busyOn 6#4 0 0 .a []))) (fun s => s.status.word) = some 0x301#32 ∧
    look (step (writing 0x008 0x0000007F#32 (busyOn 6#4 0 0 .a []))) (fun s => (s.device.word, s.status.word)) =
      some (0x20#32, 0x301#32) := by decide

/-- Vectors H-13 and H-14: little-endian words, and the bytes from N_BUF on. -/
theorem test_txbuf_word :
    look (step (writing 0x100 0xDDCCBBAA#32 s0)) (fun s => (s.txByte 0, s.txByte 3)) = some (0xAA, 0xDD) ∧
    look (step (writing 0x100 0xDDCCBBAA#32 { s0 with nBuf := 2 }))
      (fun s => (s.windowRead 0x100, s.windowRead 0x104)) = some (0x0000BBAA#32, 0#32) := by decide

/-- Vector H-17: refused accesses. -/
theorem test_refused_accesses :
    why (step { s1 with script := [.host (.read 0x006 4)] }) = some .misaligned ∧
    why (step { s1 with script := [.host (.read 0x004 2)] }) = some .badWidth ∧
    why (step { s1 with script := [.host (.write 0x400 4 0)] }) = some .outsideWindow := by decide

/-- 95_test_vectors.md 2.4: a success without a byte per RD word is no answer. -/
theorem test_illegal_answer :
    why (exec (.readReg 0x12 1) (busyOn 3#4 0x12 1 .xfer [.transfer ⟨0#32, 7, []⟩])) =
      some .replyBreaksContract := by decide

/-- Vector X-2: reset in the middle of READ_BOTH leaves no completion. -/
theorem test_reset_midway :
    look (step { busyOn 6#4 0 0 .b [] with cacheA := 0xAA, script := [.resetOn] })
      (fun s => (s.status.word, s.device.word, s.code, s.cacheA, s.latch)) = some (0#32, 0#32, 0#32, 0x00, none) := by
  decide

/-! ## Witnesses: for each statement with hypotheses, a state and operands that meet them -/

/-- The latch of `busyOn`. -/
def latchOf (op : BitVec 4) (reg arg : Byte) (step : SubStep) : Latch := ⟨op, reg, arg, s1.device, step⟩

/-- QA of the vectors: the queue of a one-byte read of `reg` at device 0x20. -/
def readQueue (reg : Byte) : List PrimWord :=
  [startWord, wrWord (addrWrite 0x20), wrWord reg, startWord, wrWord (addrRead 0x20), rdNackWord, stopWord]

/-- S1 meets the invariant. -/
theorem s1_inv : s1.Inv where
  nBuf_range := by decide
  mem_wf := by decide
  mem_inBuffers := by intro c h; cases h
  busy_latch := by decide
  latch_fits := by intro l h; cases h
  sess_none := by decide
  err_fail := by decide
  code_fail := by decide
  stuck_init := by decide
  reinit_fault := by decide
  record_kept := ⟨[], rfl⟩
  faults_only := by intro f h; cases h
  held_in_reset := by decide

/-- A stuck INIT meets the invariant. -/
theorem stuck_inv : State.Inv { busyOn 1#4 0 0 .cfg [] with stuck := true } where
  nBuf_range := by decide
  mem_wf := by decide
  mem_inBuffers := by intro c h; cases h
  busy_latch := by decide
  latch_fits := by intro l h; cases h; decide
  sess_none := by decide
  err_fail := by decide
  code_fail := by decide
  stuck_init := by intro _; exact ⟨_, rfl, rfl⟩
  reinit_fault := by decide
  record_kept := ⟨[], rfl⟩
  faults_only := by intro f h; cases h
  held_in_reset := by decide

/-- An INIT in progress, its answer supplied, meets the invariant. -/
theorem init_inv : State.Inv (busyOn 1#4 0 0 .cfg [.code 0#32]) where
  nBuf_range := by decide
  mem_wf := by decide
  mem_inBuffers := by intro c h; cases h
  busy_latch := by decide
  latch_fits := by intro l h; cases h; decide
  sess_none := by decide
  err_fail := by decide
  code_fail := by decide
  stuck_init := by decide
  reinit_fault := by decide
  record_kept := ⟨[], rfl⟩
  faults_only := by intro f h; cases h
  held_in_reset := by decide

/-- A READ_BOTH in progress meets the invariant. -/
theorem readBoth_inv : State.Inv (busyOn 6#4 0 0 .a []) where
  nBuf_range := by decide
  mem_wf := by decide
  mem_inBuffers := by intro c h; cases h
  busy_latch := by decide
  latch_fits := by intro l h; cases h; decide
  sess_none := by decide
  err_fail := by decide
  code_fail := by decide
  stuck_init := by decide
  reinit_fault := by decide
  record_kept := ⟨[], rfl⟩
  faults_only := by intro f h; cases h
  held_in_reset := by decide

theorem witness_DecodeInvertsEncode :
    Instr.wellFormed (.writeReg 0xFF 255) = true ∧ Instr.wellFormed (.readPort 0x13 .portB) = true := by decide

theorem witness_EncodeInvertsDecode :
    decode (.command 0x00FF0002#32) = .ok (.writeReg 0x00 255) ∧ decode (.primitive 0x4100#16) = .ok .rdNack :=
  ⟨rfl, rfl⟩

/-- One illegal word for each way to be illegal, and a legal one of each opcode. -/
theorem witness_CommandWordMeaning :
    (∀ w ∈ [0x01000001#32, 0x00000011#32, 0x00000000#32, 0x00000007#32, 0x00000101#32, 0x00010006#32,
      0x00020005#32], illegalWord w) ∧
    (∀ w ∈ [0x00000001#32, 0x00FFFF02#32, 0x00FFFF03#32, 0x00FFFF04#32, 0x0001FF05#32, 0x00000006#32],
      ¬illegalWord w) := by
  simp [illegalWord]

theorem witness_PrimitiveWordForms :
    (0x1000#16).toNat = 0x1000 ∧ (0x2000#16).toNat = 0x2000 ∧ (0x31FF#16).toNat / 256 = 0x31 ∧
    (0x4000#16).toNat = 0x4000 ∧ (0x4100#16).toNat = 0x4100 ∧ (0x3200#16).toNat / 256 ≠ 0x31 := by decide

theorem witness_StepRunsTheInstruction :
    ((writing 0x000 0x00000006#32 s1).script = [.host (.write 0x000 4 0x00000006#32)] ∧
      (writing 0x000 0x00000006#32 s1).inReset = false ∧ (writing 0x000 0x00000006#32 s1).status.busy = false ∧
      decodeCommand 0x00000006#32 = .ok .readBoth) ∧
    (busyOn 6#4 0 0 .b []).running (latchOf 6#4 0 0 .b) .readBoth ∧ decodePrim 0x31FF#16 = .ok (.wr 0xFF) :=
  ⟨⟨rfl, rfl, rfl, rfl⟩, ⟨rfl, rfl, rfl, rfl, rfl⟩, rfl⟩

theorem witness_IdleOrStuckEngineDoesNothing :
    (s1.engineMoves = true ∧ s1.status.busy = false) ∧
    (State.engineMoves { busyOn 1#4 0 0 .cfg [] with stuck := true, script := [.engine] } = true) := by decide

/-- Both clauses at the edge of the window. -/
theorem witness_HostAccessRefusals :
    (Access.read 0x400 4).width = 4 ∧ (Access.read 0x400 4).offset % 4 = 0 ∧ 0x400 ≤ (Access.read 0x400 4).offset ∧
    (Access.write 0x3FC 4 0).width = 4 ∧ (Access.write 0x3FC 4 0).offset % 4 = 0 ∧
    (Access.write 0x3FC 4 0).offset < 0x400 := by decide

/-- The edges of the reserved and read-only ranges. -/
theorem witness_ReservedAndReadOnlyOffsets :
    (∀ off ∈ [0x000, 0x018, 0x0FC, 0x300, 0x3FC], off % 4 = 0 ∧
      (off = 0x000 ∨ (0x018 ≤ off ∧ off < 0x100) ∨ (0x300 ≤ off ∧ off < 0x400))) ∧
    (∀ off ∈ [0x00C, 0x0FC, 0x200, 0x3FC], off % 4 = 0 ∧
      ((0x00C ≤ off ∧ off < 0x100) ∨ (0x200 ≤ off ∧ off < 0x400))) := by decide

theorem witness_HostReadsHaveNoSideEffect :
    (reading 0x3FC s1).script = [.host (.read 0x3FC 4)] ∧ 0x3FC % 4 = 0 ∧ 0x3FC < 0x400 ∧ s1.latch = none ∧
    (0x20C ≠ 0x010 ∧ ¬(0x200 ≤ 0x1FC ∧ 0x1FC < 0x300)) := by decide

theorem witness_RegisterReadValues :
    ∀ l, (busyOn 4#4 0 0 .xfer []).latch = some l → l.op ≠ 6#4 := by
  intro l h
  cases h
  decide

theorem witness_StatusRegister :
    (writing 0x004 0x00000502#32 s1).script = [.host (.write 0x004 4 0x00000502#32)] ∧
    (writing 0x004 0x00000502#32 s1).inReset = false := by decide

theorem witness_DeviceRegister :
    ((writing 0x008 0x000000FF#32 s1).script = [.host (.write 0x008 4 0x000000FF#32)] ∧
      (writing 0x008 0x000000FF#32 s1).inReset = false ∧ s1.status.busy = false ∧
      (busyOn 6#4 0 0 .a []).status.busy = true) ∧
    (∃ s', step s1 = .next s') ∧ (∀ v rest, s1.script ≠ .host (.write 0x008 4 v) :: rest) ∧ ¬s1.resets :=
  ⟨by decide, ⟨_, rfl⟩, (by intro v rest h; cases h), (by rintro ⟨rest, h⟩; cases h)⟩

/-- A write that sets OVR, one that clears it, and a dropped one at each end of TXBUF. -/
theorem witness_OverrunFlag :
    (∃ s', step (writing 0x1FC 0#32 (busyOn 6#4 0 0 .a [])) = .next s' ∧ s'.status.ovr = true) ∧
    (∃ s', step (writing 0x100 0#32 (busyOn 6#4 0 0 .a [])) = .next s' ∧ s'.status.ovr = true) ∧
    (writing 0x1FC 0#32 (busyOn 6#4 0 0 .a [])).hostWrites 0x1FC 0#32 ∧
    (∃ s', step (writing 0x004 0x100#32 { s1 with status := { s1.status with ovr := true } }) = .next s' ∧
      s'.status.ovr = false) :=
  ⟨⟨_, rfl, rfl⟩, ⟨_, rfl, rfl⟩, ⟨[], rfl, rfl⟩, ⟨_, rfl, rfl⟩⟩

theorem witness_OverrunDropsTheWrite :
    (writing 0x1FC 1#32 (busyOn 6#4 0 0 .a [])).script = [.host (.write 0x1FC 4 1#32)] ∧
    (busyOn 6#4 0 0 .a []).inReset = false ∧ (busyOn 6#4 0 0 .a []).status.busy = true ∧ 0x1FC % 4 = 0 ∧
    (0x100 ≤ 0x1FC ∧ 0x1FC < 0x200) := by decide

theorem witness_InstalledFlag :
    ∃ s', step { busyOn 1#4 0 0 .inst [.code 0#32] with status := { Status.zero with busy := true } } = .next s' ∧
      s'.status.inst = true := ⟨_, rfl, rfl⟩

theorem witness_ReinitFlag :
    (∃ s', step (writing 0x000 1#32 s1) = .next s' ∧ s'.status.reinit = true) ∧
    (writing 0x000 1#32 s1).hostWrites 0x000 1#32 ∧ s1.status.busy = false ∧ s1.status.inst = true ∧
    (∃ s', step (writing 0x004 0x400#32 s1) = .next s') ∧ (writing 0x004 0x400#32 s1).hostWrites 0x004 0x400#32 :=
  ⟨⟨_, rfl, rfl⟩, ⟨[], rfl, rfl⟩, rfl, rfl, ⟨_, rfl⟩, ⟨[], rfl, rfl⟩⟩

theorem witness_FaultRecord :
    (∃ s', step (writing 0x000 1#32 s1) = .next s' ∧ s'.faults ≠ []) ∧ ¬(writing 0x000 1#32 s1).resets ∧
    State.resets { s1 with script := [.resetOn] } ∧ (∃ s', step { s1 with script := [.resetOn] } = .next s') ∧
    (∃ s', core.run 2 { s1 with faults := [.reinitUndefined], script := [.resetOn, .resetOff] } = .next s') :=
  ⟨⟨_, rfl, by decide⟩, (by rintro ⟨rest, h⟩; cases h), ⟨[], rfl⟩, ⟨_, rfl⟩, ⟨_, rfl⟩⟩

theorem witness_BufferByteOrder :
    252 % 4 = 0 ∧ 252 < 256 ∧ 3 < 4 ∧ s1.latch = none ∧ Memory.wf s1.mem = true ∧
    (writing (0x100 + 252) 1#32 s1).script = [.host (.write (0x100 + 252) 4 1#32)] ∧ s1.inReset = false ∧
    s1.status.busy = false ∧ 3 < s1.nBuf := by decide

theorem witness_NonexistentBufferBytes :
    s1.nBuf ≤ 4 + 0 ∧ Memory.wf s1.mem = true ∧
    (writing (0x100 + 4) 1#32 s1).script = [.host (.write (0x100 + 4) 4 1#32)] ∧ s1.nBuf ≤ 4 ∧
    (∃ s', step (writing (0x100 + 4) 1#32 s1) = .next s') ∧
    (∃ s', step (writing (0x100 + 4) 1#32 (busyOn 6#4 0 0 .a [])) = .next s') :=
  ⟨by decide, by decide, by decide, by decide, ⟨_, rfl⟩, ⟨_, rfl⟩⟩

/-- The first byte past the read, and the byte past a port read. -/
theorem witness_RxbufDuringRead :
    (busyOn 3#4 0 2 .xfer []).latch = some (latchOf 3#4 0 2 .xfer) ∧ (latchOf 3#4 0 2 .xfer).arg.toNat ≤ 0 + 2 ∧
    (busyOn 5#4 0 0 .xfer []).latch = some (latchOf 5#4 0 0 .xfer) ∧ 1 ≤ 0 + 1 := by decide

theorem witness_IllegalCommandWord :
    (writing 0x000 0x00000007#32 s1).script = [.host (.write 0x000 4 0x00000007#32)] ∧ s1.inReset = false ∧
    s1.status.busy = false ∧ illegalWord 0x00000007#32 := by
  unfold illegalWord
  decide

theorem witness_SizeErrorCompletes : s1.status.busy = false ∧ s1.nBuf < 5 := by decide

theorem witness_ReadRegOfSizeZero : s1.status.busy = false := by decide

theorem witness_CommandsAreAccepted : s1.status.busy = false ∧ 1 ≤ 4 ∧ 4 ≤ s1.nBuf := by decide

theorem witness_InitIsAccepted :
    (s0.status.busy = false ∧ s0.status.inst = false) ∧ (s1.status.busy = false ∧ s1.status.inst = true) := by decide

/-- A word for each check, at its boundary. -/
theorem witness_CheckOrderAtCommandWrite :
    (busyOn 6#4 0 0 .a []).status.busy = true ∧ illegalWord 0x01050002#32 ∧
    (¬illegalWord 0x00050002#32 ∧ s1.nBuf < (0x00050002#32).toNat / 65536 % 256) ∧
    (¬illegalWord 0x00001203#32 ∧ (0x00001203#32).toNat / 65536 % 256 = 0) ∧
    (¬illegalWord 0x00040002#32 ∧ ¬s1.nBuf < (0x00040002#32).toNat / 65536 % 256) ∧ s1.inReset = false := by
  unfold illegalWord
  decide

theorem witness_WriteRegTransfers :
    let s := busyOn 2#4 0x14 1 .xfer [.transfer ⟨0#32, 5, []⟩]
    s.status.busy = true ∧ s.latch = some (latchOf 2#4 0x14 1 .xfer) ∧ s.sess = .none ∧ 1 ≤ s.nBuf ∧
      s.nextTransfer ([startWord, wrWord (addrWrite 0x20), wrWord 0x14]
        ++ (List.range 1).map (fun i => wrWord (s.txByte i)) ++ [stopWord]) = some ⟨0#32, 5, []⟩ := by decide

/-- A read of N_BUF bytes. -/
theorem witness_ReadRegSucceeds :
    let s := busyOn 3#4 0x12 4 .xfer [.transfer ⟨0#32, 10, [1, 2, 3, 4]⟩]
    s.status.busy = true ∧ s.latch = some (latchOf 3#4 0x12 4 .xfer) ∧ s.sess = .none ∧ 4 ≤ s.nBuf ∧
      Memory.wf s.mem = true ∧
      s.nextTransfer ([startWord, wrWord (addrWrite 0x20), wrWord 0x12, startWord, wrWord (addrRead 0x20)]
        ++ List.replicate (4 - 1) rdAckWord ++ [rdNackWord, stopWord]) = some ⟨0#32, 10, [1, 2, 3, 4]⟩ := by
  decide

theorem witness_ReadRegFails :
    let s := busyOn 3#4 0x12 1 .xfer [.transfer ⟨7#32, 6, []⟩]
    s.status.busy = true ∧ s.latch = some (latchOf 3#4 0x12 1 .xfer) ∧ s.sess = .none ∧ 1 ≤ s.nBuf ∧
      Memory.wf s.mem = true ∧
      s.nextTransfer ([startWord, wrWord (addrWrite 0x20), wrWord 0x12, startWord, wrWord (addrRead 0x20)]
        ++ List.replicate (1 - 1) rdAckWord ++ [rdNackWord, stopWord]) = some ⟨7#32, 6, []⟩ ∧ 7#32 ≠ 0#32 := by
  decide

theorem witness_InitConfigures :
    let s := busyOn 1#4 0 0 .cfg [.code 7#32]
    s.status.busy = true ∧ s.latch = some (latchOf 1#4 0 0 .cfg) ∧ s.nextCode = some (some 7#32) := by decide

theorem witness_InitInstalls :
    let s := busyOn 1#4 0 0 .inst [.code 0#32]
    s.status.busy = true ∧ s.latch = some (latchOf 1#4 0 0 .inst) ∧ s.nextCode = some (some 0#32) := by decide

/-- Each request unanswered, and a stuck state of the invariant. -/
theorem witness_UnansweredInitIsStuck :
    ((busyOn 1#4 0 0 .cfg [.silent]).nextCode = some none ∧
      (busyOn 1#4 0 0 .cfg [.silent]).latch = some (latchOf 1#4 0 0 .cfg)) ∧
    ((busyOn 1#4 0 0 .inst [.silent]).nextCode = some none ∧
      (busyOn 1#4 0 0 .inst [.silent]).latch = some (latchOf 1#4 0 0 .inst)) ∧
    State.Inv { busyOn 1#4 0 0 .cfg [] with stuck := true } ∧
    (∃ s', step { busyOn 1#4 0 0 .cfg [] with stuck := true } = .next s') ∧
    ¬State.resets { busyOn 1#4 0 0 .cfg [] with stuck := true } ∧
    (writing 0x000 6#32 { busyOn 1#4 0 0 .cfg [] with stuck := true }).hostWrites 0x000 6#32 :=
  ⟨⟨rfl, rfl⟩, ⟨rfl, rfl⟩, stuck_inv, ⟨_, rfl⟩, (by rintro ⟨rest, h⟩; cases h), ⟨[], rfl, rfl⟩⟩

theorem witness_InitRunsToCompletion :
    let s := { writing 0x000 0x00000001#32 s0 with answers := [.code 0#32, .code 7#32] }
    s.script = [.host (.write 0x000 4 0x00000001#32)] ∧ s.inReset = false ∧ s.status.busy = false ∧
      s.stuck = false ∧ s.answers = [.code 0#32, .code 7#32] := by decide

theorem witness_WriteConfigTransfers :
    let s := busyOn 4#4 0x0A 0x20 .xfer [.transfer ⟨0#32, 5, []⟩]
    s.status.busy = true ∧ s.latch = some (latchOf 4#4 0x0A 0x20 .xfer) ∧ s.sess = .none ∧
      s.nextTransfer [startWord, wrWord (addrWrite 0x20), wrWord 0x0A, wrWord 0x20, stopWord] =
        some ⟨0#32, 5, []⟩ := by decide

theorem witness_ReadPortSucceeds :
    let s := busyOn 5#4 0x12 0 .xfer [.transfer ⟨0#32, 7, [0xAA]⟩]
    s.status.busy = true ∧ s.latch = some (latchOf 5#4 0x12 0 .xfer) ∧ s.sess = .none ∧ Memory.wf s.mem = true ∧
      s.nextTransfer (readQueue 0x12) = some ⟨0#32, 7, [0xAA]⟩ := by decide

theorem witness_ReadPortFails :
    let s := busyOn 5#4 0x12 0 .xfer [.transfer ⟨7#32, 6, []⟩]
    s.status.busy = true ∧ s.latch = some (latchOf 5#4 0x12 0 .xfer) ∧ s.sess = .none ∧ Memory.wf s.mem = true ∧
      s.nextTransfer (readQueue 0x12) = some ⟨7#32, 6, []⟩ ∧ 7#32 ≠ 0#32 := by decide

/-- Both outcomes of the port A read. -/
theorem witness_ReadBothReadsPortA :
    (let s := busyOn 6#4 0 0 .a [.transfer ⟨0#32, 7, [0xAA]⟩]
     s.status.busy = true ∧ s.latch = some (latchOf 6#4 0 0 .a) ∧ s.sess = .none ∧ Memory.wf s.mem = true ∧
       s.nextTransfer (readQueue 0x12) = some ⟨0#32, 7, [0xAA]⟩) ∧
    (busyOn 6#4 0 0 .a [.transfer ⟨7#32, 0, []⟩]).nextTransfer (readQueue 0x12) =
      some ⟨7#32, 0, []⟩ := by decide

/-- Both outcomes of the port B read. -/
theorem witness_ReadBothReadsPortB :
    (let s := busyOn 6#4 0 0 .b [.transfer ⟨0#32, 7, [0x55]⟩]
     s.status.busy = true ∧ s.latch = some (latchOf 6#4 0 0 .b) ∧ s.sess = .none ∧ Memory.wf s.mem = true ∧
       s.nextTransfer (readQueue 0x13) = some ⟨0#32, 7, [0x55]⟩) ∧
    (busyOn 6#4 0 0 .b [.transfer ⟨7#32, 6, []⟩]).nextTransfer (readQueue 0x13) =
      some ⟨7#32, 6, []⟩ := by decide

theorem witness_ReadBothCombines :
    let s := { writing 0x000 0x00000006#32 s1 with
      answers := [.transfer ⟨0#32, 7, [0xAA]⟩, .transfer ⟨0#32, 7, [0x55]⟩] }
    s.script = [.host (.write 0x000 4 0x00000006#32)] ∧ s.inReset = false ∧ s.status.busy = false ∧
      s.stuck = false ∧ s.sess = .none ∧ Memory.wf s.mem = true ∧ 1 ≤ s.nBuf := by decide

theorem witness_CommandsReachCompletion :
    State.Inv (busyOn 6#4 0 0 .a []) ∧ (busyOn 6#4 0 0 .a []).latch = some (latchOf 6#4 0 0 .a) ∧
    (latchOf 6#4 0 0 .a).op ≠ 1#4 ∧ (busyOn 6#4 0 0 .a []).script = [] ∧ (busyOn 6#4 0 0 .a []).answers = [] :=
  ⟨readBoth_inv, by decide⟩

/-- A failing WRITE_CONFIG writes DIAG; an idle Engine step does not. -/
theorem witness_DiagRecordsFacadeFailures :
    let s := busyOn 4#4 0x0A 0x20 .xfer [.transfer ⟨3#32, 2, []⟩]
    (∃ s', step s = .next s' ∧ s'.latch = none ∧ s'.code ≠ 0#32) ∧ ¬s.resets ∧
      s.running (latchOf 4#4 0x0A 0x20 .xfer) (.writeConfig 0x0A 0x20) ∧
      facadeDiag (.writeConfig 0x0A 0x20) .xfer = some ⟨4#4, 0x0A, 0x20⟩ ∧ (∃ s', step s1 = .next s') :=
  ⟨⟨_, rfl, rfl, by decide⟩, (by rintro ⟨rest, h⟩; cases h), ⟨rfl, rfl, rfl, rfl, rfl⟩, rfl, ⟨_, rfl⟩⟩

/-- A port read to each slot that changes it. -/
theorem witness_PortValueCache :
    (∃ s', step (busyOn 5#4 0x12 0 .xfer [.transfer ⟨0#32, 7, [0xAA]⟩]) = .next s' ∧ s'.cacheA ≠ s1.cacheA) ∧
    (∃ s', step (busyOn 6#4 0 0 .b [.transfer ⟨0#32, 7, [0x55]⟩]) = .next s' ∧ s'.cacheB ≠ s1.cacheB) :=
  ⟨⟨_, rfl, by decide⟩, ⟨_, rfl, by decide⟩⟩

theorem witness_InstructionFrame :
    Memory.wf s1.mem = true ∧ (∃ s', exec .readBoth s1 = .next s') ∧
    (∃ s', exec (.writeConfig 0x0A 0x20) (busyOn 4#4 0x0A 0x20 .xfer [.transfer ⟨0#32, 5, []⟩]) = .next s') :=
  ⟨rfl, ⟨_, rfl⟩, ⟨_, rfl⟩⟩

/-- A step that submits, and one that sends the configure request. -/
theorem witness_RequestsAreWellFramed :
    State.Inv (busyOn 6#4 0 0 .a []) ∧ (∃ s', step (busyOn 6#4 0 0 .a []) = .next s') ∧
    State.Inv (busyOn 1#4 0 0 .cfg [.code 0#32]) ∧ (∃ s', step (busyOn 1#4 0 0 .cfg [.code 0#32]) = .next s') :=
  ⟨readBoth_inv, ⟨_, rfl⟩, init_inv, ⟨_, rfl⟩⟩

/-- A successful one-byte read and a failing one. -/
theorem witness_SubmissionRunsAsAnswered :
    (∀ p ∈ [startWord, wrWord 0x40, rdNackWord], ∃ i, decodePrim p = .ok i) ∧
    stopWord ∉ [startWord, wrWord 0x40, rdNackWord] ∧
    (Transfer.mk 0#32 4 [0xAA]).legalFor ([startWord, wrWord 0x40, rdNackWord] ++ [stopWord]) = true ∧
    (Transfer.mk 7#32 3 []).legalFor ([startWord, wrWord 0x40, rdNackWord] ++ [stopWord]) = true := by
  refine ⟨?_, by decide, by decide, by decide⟩
  intro p hp
  simp only [List.mem_cons, List.not_mem_nil, or_false] at hp
  rcases hp with rfl | rfl | rfl <;> exact ⟨_, rfl⟩

/-- A submission in progress: the witness of StartCondition, StopCondition, WriteByteOnBus and ReadByteOnBus. -/
theorem witness_submission_in_progress :
    (onWire 0 false ⟨0#32, 7, [0xAA]⟩).bus.plan = some ⟨0#32, 7, [0xAA]⟩ ∧
    (onWire 2 true ⟨7#32, 2, []⟩).bus.plan = some ⟨7#32, 2, []⟩ ∧
    ([0xAA] : List Byte)[(onWire 5 true ⟨0#32, 7, [0xAA]⟩).bus.rx.length]? = some 0xAA := by decide

theorem witness_EngineSeesOnlyAnswers :
    decodeCommand 0x00000006#32 = .ok .readBoth ∧
    (∃ s', exec .readBoth (busyOn 6#4 0 0 .a [.transfer ⟨0#32, 7, [0xAA]⟩]) = .next s') :=
  ⟨rfl, ⟨_, rfl⟩⟩

theorem witness_ResetValues : decodeCommand 0x00FF0003#32 = .ok (.readReg 0x00 255) := rfl

/-- Reset asserted when idle, with a submission pending, and in INIT; a CMD write under it; reset released. -/
theorem witness_ResetInput :
    (State.script { s1 with script := [.resetOn] } = [.resetOn] ∧ s1.latch = none) ∧
    (State.script { busyOn 6#4 0 0 .b [] with script := [.resetOn] } = [.resetOn] ∧
      (busyOn 6#4 0 0 .b []).submitPending = true) ∧
    ((busyOn 1#4 0 0 .inst []).latch = some (latchOf 1#4 0 0 .inst) ∧
      (busyOn 1#4 0 0 .inst []).submitPending = false) ∧
    State.script { s1 with script := [.resetOff], inReset := true } = [.resetOff] ∧
    State.inReset { writing 0x000 1#32 s0 with inReset := true } = true ∧
    State.script { writing 0x000 1#32 s0 with inReset := true } = [.host (.write 0x000 4 1#32)] := by decide

theorem witness_InvariantAtReset : 1 ≤ 1 ∧ 1 ≤ 255 ∧ 255 ≤ 255 := by decide

theorem witness_StepKeepsInvariant :
    State.Inv (busyOn 6#4 0 0 .a []) ∧ (∃ s', step (busyOn 6#4 0 0 .a []) = .next s') ∧ s1.Inv ∧
    (∃ s', step s1 = .next s') :=
  ⟨readBoth_inv, ⟨_, rfl⟩, s1_inv, ⟨_, rfl⟩⟩

theorem witness_NoStepFaults : State.Inv (busyOn 6#4 0 0 .a []) := readBoth_inv

theorem witness_OutsideUsesAreRefused :
    State.script { s1 with script := [.foreign] } = [.foreign] ∧ decodePrim 0x3040#16 = .error .reservedPrimitive :=
  ⟨rfl, rfl⟩

/-- A state for each sub-step, and for each command an answer that breaks the contract; one that keeps it. -/
theorem witness_IllegalAnswersAreRejected :
    (let s := busyOn 4#4 0x0A 0x20 .xfer [.transfer ⟨0#32, 4, []⟩]
     s.status.busy = true ∧ s.latch = some (latchOf 4#4 0x0A 0x20 .xfer) ∧ s.sess = .none ∧ 1 ≤ s.nBuf ∧
       why (exec (.writeConfig 0x0A 0x20) s) = some .replyBreaksContract) ∧
    why (exec (.writeConfig 0x0A 0x20) (busyOn 4#4 0x0A 0x20 .xfer [.transfer ⟨0#32, 5, []⟩])) = none ∧
    why (exec (.writeReg 0x14 4) (busyOn 2#4 0x14 4 .xfer [.code 0#32])) = some .replyBreaksContract ∧
    why (exec (.readReg 0x12 4) (busyOn 3#4 0x12 4 .xfer [.transfer ⟨0#32, 10, [1, 2, 3]⟩])) =
      some .replyBreaksContract ∧
    why (exec (.readPort 0x12 .portA) (busyOn 5#4 0x12 0 .xfer [.transfer ⟨3#32, 7, []⟩])) =
      some .replyBreaksContract ∧
    why (exec .readBoth (busyOn 6#4 0 0 .a [.silent])) = some .replyBreaksContract ∧
    why (exec .readBoth (busyOn 6#4 0 0 .b [.transfer ⟨0#32, 7, []⟩])) = some .replyBreaksContract ∧
    why (exec .init (busyOn 1#4 0 0 .cfg [.transfer ⟨0#32, 0, []⟩])) = some .replyBreaksContract ∧
    why (exec .init (busyOn 1#4 0 0 .inst [.transfer ⟨0#32, 0, []⟩])) = some .replyBreaksContract := by
  decide

end Sys2Proof.Tests
end

/-! Proofs about the architectural state (10_state.md): the registers STATUS and DEVICE, what each instruction and each
step does to DEVICE, STATUS.INST and the Port Value Cache, and the statements settled from it. -/

namespace Sys2Proof.Machine

/-! ### STATUS -/

/-- The read value of STATUS as a number: each field at its bits, 0 elsewhere (10_state.md R31). -/
theorem Status.word_toNat (st : Status) :
    st.word.toNat = st.busy.toNat + 2 * st.done.toNat + 4 * st.fail.toNat + 16 * st.err.field.toNat
      + 256 * st.ovr.toNat + 512 * st.inst.toNat + 1024 * st.reinit.toNat := by
  simp only [Status.word, toNat_append_eq, BitVec.toNat_ofNat, BitVec.toNat_ofBool]
  omega

/-- OVR, INST and REINIT stand at bits 8, 9 and 10 of STATUS (10_state.md R28-R30). -/
theorem Status.word_getLsbD_flags (st : Status) :
    st.word.getLsbD 8 = st.ovr ∧ st.word.getLsbD 9 = st.inst ∧ st.word.getLsbD 10 = st.reinit := by
  have h (i : Nat) : st.word.getLsbD i = BitVec.getLsbD (0#21 ++ BitVec.ofBool st.reinit ++ BitVec.ofBool st.inst
    ++ BitVec.ofBool st.ovr ++ 0#2 ++ st.err.field ++ 0#1 ++ BitVec.ofBool st.fail ++ BitVec.ofBool st.done
    ++ BitVec.ofBool st.busy) i := rfl
  simp only [h, BitVec.getLsbD_append]
  simp

@[simp] theorem Status.completed_inst (st : Status) (c : Word) (e : EngineError) :
    (st.completed c e).inst = st.inst := rfl
@[simp] theorem Status.accepted_inst (st : Status) : st.accepted.inst = st.inst := rfl
@[simp] theorem Status.overrun_inst (st : Status) : st.overrun.inst = st.inst := rfl
@[simp] theorem Status.writeOneClear_inst (st : Status) (v : Word) : (st.writeOneClear v).inst = st.inst := rfl

/-- A STATUS write, flag by flag: a 1 clears, a 0 keeps (10_state.md R31). -/
theorem Status.writeOneClear_eq (v : Word) (st : Status) :
    st.writeOneClear v = { st with
      done := if v.getLsbD 1 then false else st.done
      ovr := if v.getLsbD 8 then false else st.ovr
      reinit := if v.getLsbD 10 then false else st.reinit } := by
  have clear : ∀ flag bit : Bool, (flag && !bit) = if bit then false else flag := by decide
  simp only [Status.writeOneClear, clear]

/-! ### DEVICE -/

/-- The fields a written word stores in DEVICE stand where REG, ARG and RSV1 stand in a command word (10_state.md
R32-R35); the address is 7 bits. -/
theorem Device.ofWord_fields (v : Word) :
    (Device.ofWord v).addr.toNat = v.toNat % 128 ∧ (Device.ofWord v).chan.toNat = v.toNat / 256 % 256 ∧
      (Device.ofWord v).sda.toNat = v.toNat / 65536 % 256 ∧ (Device.ofWord v).scl.toNat = v.toNat / 16777216 :=
  ⟨by simp [Device.ofWord, BitVec.extractLsb'_toNat], cmdReg_toNat v, cmdArg_toNat v, cmdRsv1_toNat v⟩

/-- The read value of DEVICE bit by bit (10_state.md R32-R35). -/
theorem Device.word_getLsbD (d : Device) (i : Nat) :
    d.word.getLsbD i =
      if i < 7 then d.addr.getLsbD i else if i < 8 then false else if i < 16 then d.chan.getLsbD (i - 8)
      else if i < 24 then d.sda.getLsbD (i - 16) else d.scl.getLsbD (i - 24) := by
  have h : d.word.getLsbD i = BitVec.getLsbD (d.scl ++ d.sda ++ d.chan ++ 0#1 ++ d.addr) i := rfl
  simp only [h, BitVec.getLsbD_append]
  grind

/-- A written word reads back with bit 7 as 0 (10_state.md R35). -/
theorem Device.word_ofWord (v : Word) : (Device.ofWord v).word = v &&& 0xFFFFFF7F#32 := by
  apply BitVec.eq_of_getLsbD_eq
  intro i hi
  simp only [Device.word_getLsbD, Device.ofWord, BitVec.getLsbD_and, BitVec.getLsbD_extractLsb']
  interval_cases i <;> simp

/-! ### The Host's accesses -/

/-- A Host write out of reset to an aligned offset of the window other than CMD. -/
theorem step_windowWrite {s : State} {off : Nat} {v : Word} {rest : List Event}
    (hs : s.script = .host (.write off 4 v) :: rest) (hr : s.inReset = false) (h0 : off ≠ 0) (h4 : off % 4 = 0)
    (hw : off < 0x400) : step s = .next (State.windowWrite off v { s with script := rest }) := by
  rw [step_write hs h4 hw, hostWrite, if_neg (by simp [hr]), if_neg h0]

/-- No write but one to DEVICE changes DEVICE (10_state.md R35). -/
theorem State.windowWrite_device {off : Nat} (s : State) (v : Word) (h : off ≠ 0x008) :
    (s.windowWrite off v).device = s.device := by
  unfold State.windowWrite
  split_ifs <;> simp_all

@[simp] theorem State.windowWrite_inst (s : State) (off : Nat) (v : Word) :
    (s.windowWrite off v).status.inst = s.status.inst := by
  unfold State.windowWrite
  split_ifs <;> simp

/-! ### Completion, INIT and READ_BOTH -/

@[simp] theorem State.markReinit_inst (s : State) : s.markReinit.status.inst = s.status.inst := by
  unfold State.markReinit
  split <;> rfl

@[simp] theorem State.completeFacade_inst (s : State) (c : Word) (op : BitVec 4) (reg v : Byte) :
    (s.completeFacade c op reg v).status.inst = s.status.inst := by
  unfold State.completeFacade
  split <;> rfl

/-- A façade command leaves its Bus Controller code in CODE (42_facade.md R167). -/
@[simp] theorem State.completeFacade_code (s : State) (c : Word) (op : BitVec 4) (reg v : Byte) :
    (s.completeFacade c op reg v).code = c := by
  unfold State.completeFacade
  split <;> simp_all

/-! ## The Port Value Cache by slot -/

/-- The slots of the Port Value Cache (10_state.md R41). -/
def State.cache (s : State) : Slot → Byte
  | .portA => s.cacheA
  | .portB => s.cacheB

@[simp] theorem State.cache_portA (s : State) : s.cache .portA = s.cacheA := rfl
@[simp] theorem State.cache_portB (s : State) : s.cache .portB = s.cacheB := rfl

@[simp] theorem State.accept_cache (s : State) (op : BitVec 4) (reg arg : Byte) (step : SubStep) (slot : Slot) :
    (s.accept op reg arg step).cache slot = s.cache slot := rfl

@[simp] theorem State.markReinit_cache (s : State) (slot : Slot) : s.markReinit.cache slot = s.cache slot := by
  cases slot <;> simp

@[simp] theorem State.completeFacade_cache (s : State) (c : Word) (op : BitVec 4) (reg v : Byte) (slot : Slot) :
    (s.completeFacade c op reg v).cache slot = s.cache slot := by
  cases slot <;> simp

@[simp] theorem State.transacted_cache (s : State) (c : Byte) (ps : List PrimWord) (t : Transfer) (slot : Slot) :
    (s.transacted c ps t).cache slot = s.cache slot := by
  cases slot <;> simp

@[simp] theorem State.windowWrite_cache (s : State) (off : Nat) (v : Word) (slot : Slot) :
    (s.windowWrite off v).cache slot = s.cache slot := by
  cases slot <;> simp

/-- The sub-step of READ_BOTH that reads into a slot (42_facade.md R161). -/
def portSubStep : Slot → SubStep
  | .portA => .a
  | .portB => .b

/-- Only a successful port read changes the cache, and only at its slot (42_facade.md R159, R160); `u` is the state
after the session of a port read begun in `s`. -/
theorem State.landPort_cache {s u : State} {slot slot' : Slot} {t : Transfer} (hu : u.cache slot = s.cache slot)
    (h : (u.landPort slot' t).cache slot ≠ s.cache slot) : t.code = 0#32 ∧ slot = slot' := by
  rw [← hu] at h
  unfold State.landPort at h
  split at h
  · refine ⟨by assumption, ?_⟩
    cases slot <;> cases slot' <;> simp [State.setCache] at h ⊢
  · cases slot <;> simp at h

/-! ## What a command leaves alone -/

/-- DEVICE, STATUS.INST and the Port Value Cache are the same in both states. -/
structure State.SameDeviceInstCache (s s' : State) : Prop where
  device : s'.device = s.device
  inst : s'.status.inst = s.status.inst
  cache : ∀ slot, s'.cache slot = s.cache slot

theorem State.SameDeviceInstCache.of_fields {s s' : State} (hd : s'.device = s.device)
    (hi : s'.status.inst = s.status.inst) (hA : s'.cacheA = s.cacheA) (hB : s'.cacheB = s.cacheB) :
    s.SameDeviceInstCache s' :=
  ⟨hd, hi, fun slot => by cases slot <;> assumption⟩

theorem State.onBus_sameDeviceInstCache (s : State) (f : Nat → Transfer → Bus → Bus) :
    s.SameDeviceInstCache (s.onBus f) := by
  apply State.SameDeviceInstCache.of_fields <;> simp

theorem initAfterConfig_sameDeviceInstCache (l : Latch) (c : Option Word) (s : State) :
    s.SameDeviceInstCache (initAfterConfig l c s) := by
  unfold initAfterConfig
  split
  · exact .of_fields rfl rfl rfl rfl
  · split <;> apply State.SameDeviceInstCache.of_fields <;> simp

theorem readBothAfterA_sameDeviceInstCache (l : Latch) (t : Transfer) (s : State) :
    s.SameDeviceInstCache (readBothAfterA l t s) := by
  unfold readBothAfterA
  split <;> apply State.SameDeviceInstCache.of_fields <;> simp

theorem readBothAfterB_sameDeviceInstCache (t : Transfer) (s : State) :
    s.SameDeviceInstCache (readBothAfterB t s) := by
  unfold readBothAfterB
  split <;> apply State.SameDeviceInstCache.of_fields <;> simp

/-- The commands and primitives that neither install the channel nor read a port. -/
theorem exec_sameDeviceInstCache {i : Instr} {s s' : State} (h : exec i s = .next s') (hi : i ≠ .init)
    (hp : ∀ reg slot, i ≠ .readPort reg slot) (hb : i ≠ .readBoth) : s.SameDeviceInstCache s' := by
  cases i with
  | init => exact absurd rfl hi
  | readPort reg slot => exact absurd rfl (hp reg slot)
  | readBoth => exact absurd rfl hb
  | writeReg reg n =>
    obtain ⟨-, -, rfl⟩ | ⟨-, -, rfl⟩ | ⟨-, l, t, -, -, -, -, rfl⟩ := execWriteReg_cases h
    all_goals apply State.SameDeviceInstCache.of_fields <;> simp
  | readReg reg n =>
    obtain ⟨-, -, rfl⟩ | ⟨-, -, rfl⟩ | ⟨-, -, -, rfl⟩ | ⟨-, l, t, -, -, -, -, -, rfl⟩ := execReadReg_cases h
    all_goals apply State.SameDeviceInstCache.of_fields <;> simp
  | writeConfig reg v =>
    obtain ⟨-, rfl⟩ | ⟨-, l, t, -, -, -, -, rfl⟩ := execWriteConfig_cases h
    all_goals apply State.SameDeviceInstCache.of_fields <;> simp
  | start | stop | wr data | rdAck | rdNack =>
    cases h
    exact s.onBus_sameDeviceInstCache _

/-- The answer of the install request: DEVICE and the cache stay; INST is set by the answer 0 and by no other
(42_facade.md R153, R154). -/
theorem initAfterInstall_device_cache_inst (c : Option Word) (s : State) :
    (initAfterInstall c s).device = s.device ∧ (∀ slot, (initAfterInstall c s).cache slot = s.cache slot) ∧
      ((initAfterInstall c s).status.inst = true ↔ s.status.inst = true ∨ c = some 0#32) := by
  unfold initAfterInstall
  split
  · exact ⟨rfl, fun _ => rfl, by simp⟩
  · split
    · rename_i code h0
      exact ⟨by simp, by simp, by simp [h0]⟩
    · rename_i code h0
      exact ⟨rfl, fun _ => rfl, by simp_all⟩

/-- INIT leaves DEVICE and the cache alone; it leaves INST at 1 exactly if INST was 1 or its install request is
answered 0 (42_facade.md R153, R154). -/
theorem execInit_device_cache_inst {s s' : State} (h : execInit s = .next s') :
    s'.device = s.device ∧ (∀ slot, s'.cache slot = s.cache slot) ∧
      (s'.status.inst = true ↔ s.status.inst = true ∨
        (s.status.busy = true ∧ ∃ l, s.latch = some l ∧ l.step = .inst ∧ s.nextCode = some (some 0#32))) := by
  obtain ⟨hb, rfl⟩ | ⟨hb, l, c, hl, hc, ⟨hstep, rfl⟩ | ⟨hstep, rfl⟩⟩ := execInit_cases h
  · exact ⟨by simp, by simp, by simp [hb]⟩
  · obtain ⟨hd, hi, hcache⟩ := initAfterConfig_sameDeviceInstCache l c
      ((s.takeReply 1).record (.config l.ldev.chan (cfgRecord l.ldev)) (Reply.ofCode c))
    exact ⟨hd, hcache, by simp [hi, hl, hstep]⟩
  · obtain ⟨hd, hcache, hi⟩ := initAfterInstall_device_cache_inst c
      ((s.takeReply 1).record (.install l.ldev.chan instRecord) (Reply.ofCode c))
    exact ⟨hd, hcache, by simp [hi, hb, hl, hstep, hc]⟩

/-- READ_PORT leaves DEVICE and INST alone; it changes the cache only at its slot, in the Engine step that completes it
with CODE = 0 (42_facade.md R159, R160). -/
theorem execReadPort_device_inst_cache {reg : Byte} {slot : Slot} {s s' : State}
    (h : execReadPort reg slot s = .next s') :
    s'.device = s.device ∧ s'.status.inst = s.status.inst ∧
      ∀ slot', s'.cache slot' ≠ s.cache slot' → slot' = slot ∧ s.status.busy = true ∧ s'.code = 0#32 := by
  obtain ⟨hb, rfl⟩ | ⟨hb, l, t, -, -, -, -, rfl⟩ := execReadPort_cases h
  · exact ⟨rfl, rfl, fun slot' hne => absurd rfl hne⟩
  · refine ⟨by simp, by simp, fun slot' hne => ?_⟩
    rw [State.completeFacade_cache] at hne
    obtain ⟨hcode, hslot⟩ := State.landPort_cache (State.transacted_cache ..) hne
    exact ⟨hslot, hb, by simp [hcode]⟩

/-- READ_BOTH leaves DEVICE and INST alone; it changes the cache only at the slot of its sub-step, and if the step
completes it, with CODE = 0 (42_facade.md R159-R163). -/
theorem execReadBoth_device_inst_cache {s s' : State} (h : execReadBoth s = .next s') :
    s'.device = s.device ∧ s'.status.inst = s.status.inst ∧
      ∀ slot, s'.cache slot ≠ s.cache slot → s.status.busy = true ∧ (s'.latch = none → s'.code = 0#32) ∧
        ∃ l, s.latch = some l ∧ l.step = portSubStep slot := by
  obtain ⟨hb, rfl⟩ | ⟨hb, l, t, hl, -, ⟨hstep, -, rfl⟩ | ⟨hstep, -, rfl⟩⟩ := execReadBoth_cases h
  · exact ⟨rfl, rfl, fun slot hne => absurd rfl hne⟩
  · obtain ⟨hd, hi, hcache⟩ := readBothAfterA_sameDeviceInstCache l t
      ((s.transacted l.ldev.chan (readBody l.ldev.addr 0x12#8 1) t).landPort .portA t)
    refine ⟨by simp [hd], by simp [hi], fun slot hne => ?_⟩
    obtain ⟨hcode, rfl⟩ := State.landPort_cache (State.transacted_cache ..) (hcache slot ▸ hne)
    exact ⟨hb, by simp [readBothAfterA, hcode], l, hl, hstep⟩
  · obtain ⟨hd, hi, hcache⟩ := readBothAfterB_sameDeviceInstCache t
      ((s.transacted l.ldev.chan (readBody l.ldev.addr 0x13#8 1) t).landPort .portB t)
    refine ⟨by simp [hd], by simp [hi], fun slot hne => ?_⟩
    obtain ⟨hcode, rfl⟩ := State.landPort_cache (State.transacted_cache ..) (hcache slot ▸ hne)
    exact ⟨hb, by simp [readBothAfterB, hcode], l, hl, hstep⟩

/-! ## What any instruction does to DEVICE, INST and the cache -/

/-- No instruction changes DEVICE (10_state.md R35). -/
theorem exec_device {i : Instr} {s s' : State} (h : exec i s = .next s') : s'.device = s.device := by
  cases i with
  | init => exact (execInit_device_cache_inst h).1
  | readPort reg slot => exact (execReadPort_device_inst_cache h).1
  | readBoth => exact (execReadBoth_device_inst_cache h).1
  | _ => exact (exec_sameDeviceInstCache h (by simp) (by simp) (by simp)).device

/-- INST is 1 after an instruction exactly if it was, or the instruction is INIT's install request answered 0
(10_state.md R29). -/
theorem exec_inst_iff {i : Instr} {s s' : State} (h : exec i s = .next s') :
    s'.status.inst = true ↔ s.status.inst = true ∨ (i = .init ∧ s.status.busy = true ∧
      ∃ l, s.latch = some l ∧ l.step = .inst ∧ s.nextCode = some (some 0#32)) := by
  cases i with
  | init =>
    obtain ⟨-, -, hinst⟩ := execInit_device_cache_inst h
    simpa using hinst
  | readPort reg slot =>
    obtain ⟨-, hinst, -⟩ := execReadPort_device_inst_cache h
    simp [hinst]
  | readBoth =>
    obtain ⟨-, hinst, -⟩ := execReadBoth_device_inst_cache h
    simp [hinst]
  | _ => simp [(exec_sameDeviceInstCache h (by simp) (by simp) (by simp)).inst]

/-- An instruction that changes a slot of the cache is an Engine step of a port read to that slot, and if it completes
its command, it does so with CODE = 0 (10_state.md R41). -/
theorem exec_cache {i : Instr} {s s' : State} {slot : Slot} (h : exec i s = .next s')
    (hne : s'.cache slot ≠ s.cache slot) :
    s.status.busy = true ∧ (s'.latch = none → s'.code = 0#32) ∧
      ((∃ reg, i = .readPort reg slot) ∨ (i = .readBoth ∧ ∃ l, s.latch = some l ∧ l.step = portSubStep slot)) := by
  cases i with
  | init => exact absurd ((execInit_device_cache_inst h).2.1 slot) hne
  | readPort reg slot' =>
    obtain ⟨-, -, hcache⟩ := execReadPort_device_inst_cache h
    obtain ⟨rfl, hb, hcode⟩ := hcache slot hne
    exact ⟨hb, fun _ => hcode, .inl ⟨reg, rfl⟩⟩
  | readBoth =>
    obtain ⟨-, -, hcache⟩ := execReadBoth_device_inst_cache h
    obtain ⟨hb, hcode, hl⟩ := hcache slot hne
    exact ⟨hb, hcode, .inr ⟨rfl, hl⟩⟩
  | _ => exact absurd ((exec_sameDeviceInstCache h (by simp) (by simp) (by simp)).cache slot) hne

/-! ## What any step does to DEVICE, INST and the cache -/

/-- An idle engine's acceptance of a command. -/
theorem exec_idle_keeps {i : Instr} {s s' : State} (hb : s.status.busy = false) (h : exec i s = .next s') :
    s'.status.inst = s.status.inst ∧ ∀ slot, s'.cache slot = s.cache slot := by
  refine ⟨Bool.eq_iff_iff.mpr (by simpa [hb] using exec_inst_iff h), fun slot => ?_⟩
  by_contra hne
  obtain ⟨hbusy, -⟩ := exec_cache h hne
  simp [hb] at hbusy

/-- A primitive word given to the Bus Controller. -/
theorem exec_prim_sameDeviceInstCache {p : PrimWord} {i : Instr} {s s' : State} (hp : decodePrim p = .ok i)
    (h : exec i s = .next s') : s.SameDeviceInstCache s' := by
  obtain rfl | rfl | ⟨b, rfl⟩ | rfl | rfl := decodePrim_prim hp <;>
    exact exec_sameDeviceInstCache h (by simp) (by simp) (by simp)

/-- When the Engine moves, its turn comes with the event taken. -/
theorem step_of_engineMoves {s : State} (hm : s.engineMoves = true) :
    step s = engineTurn { s with script := s.script.tail } := by
  unfold State.engineMoves at hm
  split at hm
  · rename_i hs
    have e : ({ s with script := s.script.tail } : State) = s := by rw [hs, List.tail_nil, ← hs]
    rw [e, step, hs]
  · rename_i hs
    simp only [step, hs, runEvent, List.tail_cons]
  · cases hm

theorem State.running.busy_eq {s : State} {l : Latch} {i : Instr} (h : s.running l i) : s.status.busy = true := by
  obtain ⟨-, hb, -, -, -⟩ := h
  exact hb

theorem State.running.latch_eq {s : State} {l : Latch} {i : Instr} (h : s.running l i) : s.latch = some l := by
  obtain ⟨-, -, -, hl, -⟩ := h
  exact hl

/-- A running command takes its next Engine step. -/
theorem State.running.step_eq {s : State} {l : Latch} {i : Instr} (h : s.running l i) :
    step s = exec i { s with script := s.script.tail } := by
  obtain ⟨hm, hb, hst, hl, hi⟩ := h
  simp [step_of_engineMoves hm, engineTurn, hb, hst, hl, hi]

theorem State.resets.step_eq {s : State} (h : s.resets) :
    step s = .next (State.assertReset { s with script := s.script.tail }) := by
  obtain ⟨rest, hs⟩ := h
  simp [step, hs, runEvent]

/-- A step that is neither an Engine step of a command nor a reset leaves INST and the cache alone. -/
theorem step_runs_or_keeps {s s' : State} (h : step s = .next s') (hr : ¬s.resets) :
    (∃ l i, s.running l i ∧ exec i { s with script := s.script.tail } = .next s') ∨
      (s'.status.inst = s.status.inst ∧ ∀ slot, s'.cache slot = s.cache slot) := by
  obtain ⟨-, -, rfl⟩ | hrun | ⟨off, rest, -, -, -, rfl⟩ | ⟨off, v, rest, -, -, -, hw⟩ | ⟨p, i, rest, -, hp, hexec⟩ |
    ⟨rest, hs, -⟩ | ⟨rest, -, rfl⟩ := step_cases h
  · exact .inr ⟨rfl, fun _ => rfl⟩
  · exact .inl hrun
  · exact .inr ⟨rfl, fun _ => rfl⟩
  · right
    obtain ⟨-, rfl⟩ | ⟨-, -, -, rfl⟩ | ⟨-, -, -, -, rfl⟩ | ⟨-, -, hb, i, -, hexec⟩ | ⟨-, -, rfl⟩ := hw
    · exact ⟨rfl, fun _ => rfl⟩
    · exact ⟨rfl, fun _ => rfl⟩
    · exact ⟨rfl, fun _ => rfl⟩
    · exact exec_idle_keeps (s := { s with script := rest }) hb hexec
    · exact ⟨State.windowWrite_inst .., State.windowWrite_cache _ _ _⟩
  · obtain ⟨-, hinst, hcache⟩ := exec_prim_sameDeviceInstCache hp hexec
    exact .inr ⟨hinst, hcache⟩
  · exact absurd ⟨rest, hs⟩ hr
  · exact .inr ⟨rfl, fun _ => rfl⟩

/-- No step but a Host write to DEVICE or a reset changes DEVICE (10_state.md R35). -/
theorem step_device {s s' : State} (h : step s = .next s')
    (hw : ∀ v rest, s.script ≠ .host (.write 0x008 4 v) :: rest) (hr : ¬s.resets) : s'.device = s.device := by
  obtain ⟨-, -, rfl⟩ | ⟨l, i, -, hexec⟩ | ⟨off, rest, -, -, -, rfl⟩ | ⟨off, v, rest, hs, -, -, hwrite⟩ |
    ⟨p, i, rest, -, -, hexec⟩ | ⟨rest, hs, -⟩ | ⟨rest, -, rfl⟩ := step_cases h
  · rfl
  · exact (exec_device hexec :)
  · rfl
  · obtain ⟨-, rfl⟩ | ⟨-, -, -, rfl⟩ | ⟨-, -, -, -, rfl⟩ | ⟨-, -, -, i, -, hexec⟩ | ⟨-, -, rfl⟩ := hwrite
    · rfl
    · rfl
    · rfl
    · exact (exec_device hexec :)
    · exact State.windowWrite_device _ v fun h8 => hw v rest (h8 ▸ hs)
  · exact (exec_device hexec :)
  · exact absurd ⟨rest, hs⟩ hr
  · rfl

/-- INST is 1 after a step exactly if it was and the step is no reset, or the step is INIT's install request answered 0
(10_state.md R29). -/
theorem step_inst_iff {s s' : State} (h : step s = .next s') :
    s'.status.inst = true ↔ (s.status.inst = true ∧ ¬s.resets) ∨
      (∃ l, s.running l .init ∧ l.step = .inst ∧ s.nextCode = some (some 0#32)) := by
  constructor
  · intro hi
    by_cases hr : s.resets
    · rw [hr.step_eq] at h
      cases h
      simp [Status.zero] at hi
    · obtain ⟨l, i, hrun, hexec⟩ | ⟨hinst, -⟩ := step_runs_or_keeps h hr
      · obtain hi | ⟨rfl, -, l', hl', hstep, hcode⟩ := (exec_inst_iff hexec).mp hi
        · exact .inl ⟨hi, hr⟩
        · obtain rfl : l = l' := Option.some.inj (hrun.latch_eq.symm.trans hl')
          exact .inr ⟨l, hrun, hstep, hcode⟩
      · exact .inl ⟨hinst ▸ hi, hr⟩
  · rintro (⟨hi, hr⟩ | ⟨l, hrun, hstep, hcode⟩)
    · obtain ⟨l, i, -, hexec⟩ | ⟨hinst, -⟩ := step_runs_or_keeps h hr
      · exact (exec_inst_iff hexec).mpr (.inl hi)
      · rw [hinst, hi]
    · exact (exec_inst_iff (hrun.step_eq.symm.trans h)).mpr
        (.inr ⟨rfl, hrun.busy_eq, l, hrun.latch_eq, hstep, hcode⟩)

/-- A step other than reset that changes a slot of the cache is a successful port read to that slot (10_state.md R41). -/
theorem step_cache {s s' : State} {slot : Slot} (h : step s = .next s') (hr : ¬s.resets)
    (hne : s'.cache slot ≠ s.cache slot) :
    ∃ l, ((∃ reg, s.running l (.readPort reg slot)) ∨ (s.running l .readBoth ∧ l.step = portSubStep slot)) ∧
      (s'.latch = none → s'.code = 0#32) := by
  obtain ⟨l, i, hrun, hexec⟩ | ⟨-, hcache⟩ := step_runs_or_keeps h hr
  · obtain ⟨-, hcode, ⟨reg, rfl⟩ | ⟨rfl, l', hl', hstep⟩⟩ := exec_cache hexec hne
    · exact ⟨l, .inl ⟨reg, hrun⟩, hcode⟩
    · obtain rfl : l = l' := Option.some.inj (hrun.latch_eq.symm.trans hl')
      exact ⟨l, .inr ⟨hrun, hstep⟩, hcode⟩
  · exact absurd (hcache slot) hne

/-! ## The obligations -/

/-- Settles O13: the read value by the fields' numbers, the write by `Status.writeOneClear_eq`. -/
theorem statusRegister : Obligations.StatusRegister := by
  have hzero : Status.zero.word = 0#32 := by decide
  refine ⟨fun s => ?_, fun _ => hzero, fun s v rest hs hr => ?_⟩
  · refine (Status.word_toNat s.status).trans ?_
    cases s.status.err <;> rfl
  · rw [step_windowWrite hs hr (by decide) (by decide) (by decide), ← Status.writeOneClear_eq]
    rfl

/-- Settles O14: a DEVICE write field by field and read back bit by bit; every other step by `step_device`. -/
theorem deviceRegister : Obligations.DeviceRegister := by
  have hzero : Device.word ⟨0#7, 0#8, 0#8, 0#8⟩ = 0#32 := by decide
  refine ⟨fun _ => hzero, fun s v rest hs hr => ?_, fun s s' => step_device⟩
  rw [step_windowWrite hs hr (by decide) (by decide) (by decide)]
  refine ⟨fun hb => by simp [State.windowWrite, hb, State.dropWrite, Status.overrun], fun hb => ?_⟩
  obtain ⟨haddr, hchan, hsda, hscl⟩ := Device.ofWord_fields v
  exact ⟨Device.ofWord v, haddr, hchan, hsda, hscl, by simp [State.windowWrite, hb], Device.word_ofWord v⟩

/-- Settles O17, by what each kind of step does to INST (`step_inst_iff`). -/
theorem installedFlag : Obligations.InstalledFlag :=
  ⟨fun _ => rfl, fun s => (Status.word_getLsbD_flags s.status).2.1, fun _ _ => step_inst_iff⟩

/-- Settles O44: `step_cache` at each of the two slots; a window read has no term that names the cache. -/
theorem portValueCache : Obligations.PortValueCache := by
  refine ⟨fun s s' h hr => ⟨fun hA => ?_, fun hB => ?_⟩, fun s a b off => rfl, fun n => ⟨rfl, rfl⟩⟩
  · exact step_cache (slot := .portA) h hr hA
  · exact step_cache (slot := .portB) h hr hB

end Sys2Proof.Machine

/-! Proofs about the host window (20_memory.md): what a read of each kind of offset returns, what a write to it does, the
bytes of a TXBUF word write, and the statements settled from it. -/

namespace Sys2Proof.Machine

/-! ### Bytes of a window word -/

/-- Byte `j` of a little-endian word is the `j`-th byte it was made of (20_memory.md R56). -/
theorem byteOfWord_wordOfBytes (f : Nat → Byte) {j : Nat} (hj : j < 4) :
    byteOfWord (wordOfBytes (f 0) (f 1) (f 2) (f 3)) j = f j := by
  apply BitVec.eq_of_toNat_eq
  simp only [byteOfWord, wordOfBytes, BitVec.extractLsb'_toNat, toNat_append_eq, Nat.shiftRight_eq_div_pow]
  interval_cases j <;> omega

theorem State.txByte_of_nBuf_le {s : State} {i : Nat} (h : s.nBuf ≤ i) : s.txByte i = 0#8 :=
  if_neg (by omega)

theorem State.rxByte_of_nBuf_le {s : State} {i : Nat} (h : s.nBuf ≤ i) : s.rxByte i = 0#8 :=
  if_neg (by omega)

/-- With no command latched no read is in progress, so RXBUF reads as stored (20_memory.md R65). -/
theorem State.rxSeen_of_latch_none {s : State} (h : s.latch = none) (i : Nat) : s.rxSeen i = s.rxByte i := by
  have hread : s.readInProgress = 0 := by rw [State.readInProgress, h]
  rw [State.rxSeen, if_neg (by omega)]

theorem State.rxSeen_of_nBuf_le {s : State} {i : Nat} (h : s.nBuf ≤ i) : s.rxSeen i = 0#8 := by
  rw [State.rxSeen, if_neg (by omega), State.rxByte_of_nBuf_le h]

/-! ### Reads of the window by the kind of offset -/

theorem State.windowRead_txbuf (s : State) {i : Nat} (hi : i < 256) : s.windowRead (0x100 + i) = s.txWord i := by
  unfold State.windowRead
  iterate 5 rw [if_neg (by omega)]
  rw [if_pos (by omega), Nat.add_sub_cancel_left]

theorem State.windowRead_rxbuf (s : State) {i : Nat} (hi : i < 256) : s.windowRead (0x200 + i) = s.rxWord i := by
  unfold State.windowRead
  iterate 6 rw [if_neg (by omega)]
  rw [if_pos (by omega), Nat.add_sub_cancel_left]

/-- CMD and the reserved offsets read 0 (20_memory.md R53). -/
theorem State.windowRead_reserved (s : State) {off : Nat} (h4 : off % 4 = 0)
    (h : off = 0x000 ∨ (0x018 ≤ off ∧ off < 0x100) ∨ 0x300 ≤ off) : s.windowRead off = 0#32 := by
  unfold State.windowRead
  iterate 7 rw [if_neg (by omega)]

theorem State.byteOfWord_windowRead_txbuf (s : State) {i j : Nat} (hi : i < 256) (hj : j < 4) :
    byteOfWord (s.windowRead (0x100 + i)) j = s.txByte (i + j) := by
  rw [s.windowRead_txbuf hi]
  exact byteOfWord_wordOfBytes (fun k => s.txByte (i + k)) hj

theorem State.byteOfWord_windowRead_rxbuf (s : State) {i j : Nat} (hi : i < 256) (hj : j < 4) :
    byteOfWord (s.windowRead (0x200 + i)) j = s.rxSeen (i + j) := by
  rw [s.windowRead_rxbuf hi]
  exact byteOfWord_wordOfBytes (fun k => s.rxSeen (i + k)) hj

/-! ### Writes of TXBUF bytes -/

/-- A TXBUF byte write changes the memory and nothing else. -/
theorem State.setTx_eq (s : State) (i : Nat) (v : Byte) :
    s.setTx i v = { s with mem := if i < s.nBuf then Memory.write s.mem (txBase + i) v else s.mem } := by
  unfold State.setTx
  split <;> rfl

theorem State.setTx_of_nBuf_le {s : State} {i : Nat} (h : s.nBuf ≤ i) (v : Byte) : s.setTx i v = s :=
  if_neg (by omega)

theorem State.setTx_wf {s : State} (hm : Memory.wf s.mem = true) (i : Nat) (v : Byte) :
    Memory.wf (s.setTx i v).mem = true := by
  unfold State.setTx
  split
  · exact wf_write hm _ _
  · exact hm

/-- A TXBUF byte write changes its own byte, if that exists, and no other (20_memory.md R57). -/
theorem State.read_setTx {s : State} (hm : Memory.wf s.mem = true) (i : Nat) (v : Byte) (a : Nat) :
    Memory.read (s.setTx i v).mem a = if a = txBase + i ∧ i < s.nBuf then v else Memory.read s.mem a := by
  by_cases hi : i < s.nBuf
  · simp [State.setTx, hi, read_write hm]
  · simp [State.setTx, hi]

/-- A TXBUF word write changes the memory and nothing else. -/
theorem State.setTxWord_eq (s : State) (i : Nat) (v : Word) :
    s.setTxWord i v = { s with mem := (s.setTxWord i v).mem } := by
  simp only [State.setTxWord, State.setTx_eq]

/-- A TXBUF word that holds only bytes that do not exist ignores writes (20_memory.md R57). -/
theorem State.setTxWord_of_nBuf_le {s : State} {i : Nat} (h : s.nBuf ≤ i) (v : Word) : s.setTxWord i v = s := by
  have hbyte (k : Nat) (b : Byte) : s.setTx (i + k) b = s := State.setTx_of_nBuf_le (by omega) b
  rw [State.setTxWord, State.setTx_of_nBuf_le h, hbyte 1, hbyte 2, hbyte 3]

/-- A TXBUF word write changes its four bytes, those that exist, and no other (20_memory.md R56, R57). -/
theorem State.read_setTxWord {s : State} (hm : Memory.wf s.mem = true) (i : Nat) (v : Word) (a : Nat) :
    Memory.read (s.setTxWord i v).mem a =
      if txBase + i ≤ a ∧ a < txBase + i + 4 ∧ a < txBase + s.nBuf then byteOfWord v (a - (txBase + i))
      else Memory.read s.mem a := by
  have h1 := State.setTx_wf hm i (byteOfWord v 0)
  have h2 := State.setTx_wf h1 (i + 1) (byteOfWord v 1)
  have h3 := State.setTx_wf h2 (i + 2) (byteOfWord v 2)
  simp only [State.setTxWord, State.read_setTx h3, State.read_setTx h2, State.read_setTx h1, State.read_setTx hm,
    State.setTx_nBuf]
  by_cases h : txBase + i ≤ a ∧ a < txBase + i + 4
  · obtain ⟨k, rfl⟩ := Nat.exists_eq_add_of_le h.1
    have hk : k < 4 := by omega
    rw [Nat.add_sub_cancel_left]
    interval_cases k <;> grind
  · repeat rw [if_neg (by omega)]

/-! ### Writes of the window by the kind of offset -/

/-- A write to a read-only register or to a reserved offset is ignored (20_memory.md R53). -/
theorem State.windowWrite_ignored (s : State) {off : Nat} (v : Word)
    (h : (0x00C ≤ off ∧ off < 0x100) ∨ 0x200 ≤ off) : s.windowWrite off v = s := by
  unfold State.windowWrite
  iterate 3 rw [if_neg (by omega)]

/-- A write to a TXBUF word is dropped with BUSY = 1, else stored (20_memory.md R55, R56). -/
theorem State.windowWrite_txbuf (s : State) {i : Nat} (v : Word) (hi : i < 256) :
    s.windowWrite (0x100 + i) v = if s.status.busy then s.dropWrite else s.setTxWord i v := by
  rw [State.windowWrite, if_neg (show 0x100 + i ≠ 0x004 by omega), if_neg (show 0x100 + i ≠ 0x008 by omega),
    if_pos (by omega), Nat.add_sub_cancel_left]

/-! ### Steps: the Host's writes -/

/-- A Host write to a reserved offset or a read-only register has no effect, in reset or out of it (20_memory.md R53). -/
theorem step_ignoredWrite {s : State} {off : Nat} {v : Word} {rest : List Event}
    (hs : s.script = .host (.write off 4 v) :: rest) (h4 : off % 4 = 0)
    (h : (0x00C ≤ off ∧ off < 0x100) ∨ (0x200 ≤ off ∧ off < 0x400)) : step s = .next { s with script := rest } := by
  rw [step_write hs h4 (by omega), hostWrite, if_neg (show off ≠ 0 by omega),
    State.windowWrite_ignored _ v (by omega), ite_self]

/-- A Host write to a TXBUF word: without effect in reset, dropped with BUSY = 1, else stored (20_memory.md R55,
70_reset_and_hazards.md R210). -/
theorem step_txbufWrite {s : State} {i : Nat} {v : Word} {rest : List Event}
    (hs : s.script = .host (.write (0x100 + i) 4 v) :: rest) (h4 : i % 4 = 0) (hi : i < 256) :
    step s = .next (
      if s.inReset then { s with script := rest }
      else if s.status.busy then State.dropWrite { s with script := rest }
      else State.setTxWord i v { s with script := rest }) := by
  rw [step_write hs (by omega) (by omega), hostWrite, if_neg (show 0x100 + i ≠ 0 by omega),
    State.windowWrite_txbuf _ v hi]
  split <;> rfl

/-! ## The obligations -/

/-- Settles O10: the read value of a reserved offset, and that a write there is ignored (`step_ignoredWrite`). -/
theorem reservedAndReadOnlyOffsets : Obligations.ReservedAndReadOnlyOffsets := by
  intro s off rest h4
  refine ⟨fun hs h => ⟨s.draws + 4, ?_⟩, fun v hs h => step_ignoredWrite hs h4 h⟩
  rw [step_read hs h4 (by omega), State.hostRead, State.windowRead_reserved _ h4 (by omega)]

/-- Settles O20: the bytes of a window word, and the bytes a TXBUF word write stores (`State.read_setTxWord`). -/
theorem bufferByteOrder : Obligations.BufferByteOrder := by
  refine ⟨fun s i j _ hi hj => ⟨s.byteOfWord_windowRead_txbuf hi hj, fun hl => ?_⟩,
    fun s i v rest hm h4 hi hs hr hb => ?_⟩
  · rw [s.byteOfWord_windowRead_rxbuf hi hj, State.rxSeen_of_latch_none hl]
  · have hread := State.read_setTxWord (s := { s with script := rest }) hm i v
    refine ⟨(State.setTxWord i v { s with script := rest }).mem, ?_, fun j hj => ?_, fun a ha => ?_⟩
    · rw [step_txbufWrite hs h4 hi, if_neg (by simp [hr]), if_neg (by simp [hb]), State.setTxWord_eq]
    · rw [hread, Nat.add_sub_add_left]
      exact if_congr (by simp; omega) rfl rfl
    · rw [hread, if_neg ha]

/-- Settles O21: bytes at index N_BUF and above by `State.txByte_of_nBuf_le` and `State.rxSeen_of_nBuf_le`; a write by the
three things a TXBUF word write can do (`step_txbufWrite`). -/
theorem nonexistentBufferBytes : Obligations.NonexistentBufferBytes := by
  refine ⟨fun s i j _ hi hj h => ⟨?_, ?_⟩, fun s s' i v rest hm h4 hi hs h => ?_⟩
  · rw [s.byteOfWord_windowRead_txbuf hi hj, State.txByte_of_nBuf_le h]
  · rw [s.byteOfWord_windowRead_rxbuf hi hj, State.rxSeen_of_nBuf_le h]
  · rw [step_txbufWrite hs h4 hi] at h
    cases h
    refine ⟨fun j hj => ?_, fun hi hr hb => ?_, fun hi hr hb => ?_⟩
    · split_ifs
      · rfl
      · rfl
      · rw [State.read_setTxWord (s := { s with script := rest }) hm, if_neg (by simp; omega)]
    · rw [if_neg (by simp [hr]), if_neg (by simp [hb])]
      exact State.setTxWord_of_nBuf_le (s := { s with script := rest }) hi v
    · rw [if_neg (by simp [hr]), if_pos hb]
      rfl

end Sys2Proof.Machine

/-! Proofs about the command word (30_encoding.md): the conditions of its decoding as arithmetic on its number, that an
ILLEGAL word is rejected, and what a CMD write of one does. -/

namespace Sys2Proof.Machine

/-! ### The decoder's conditions on the word's number -/

theorem cmdRsv_ne_zero_iff (w : Word) :
    (cmdRsv1 w ≠ 0#8 ∨ cmdRsv0 w ≠ 0#4) ↔ (w.toNat / 16777216 ≠ 0 ∨ w.toNat / 16 % 16 ≠ 0) := by
  simp [← BitVec.toNat_inj, cmdRsv1_toNat, cmdRsv0_toNat]

theorem cmdOp_eq_ofNat_iff (w : Word) {n : Nat} (hn : n < 16) : cmdOp w = BitVec.ofNat 4 n ↔ w.toNat % 16 = n := by
  rw [← BitVec.toNat_inj, cmdOp_toNat, BitVec.toNat_ofNat, Nat.mod_eq_of_lt hn]

/-- REG and ARG are the sixteen bits 23:8 (30_encoding.md R75). -/
theorem cmdReg_cmdArg_eq_zero_iff (w : Word) : (cmdReg w = 0#8 ∧ cmdArg w = 0#8) ↔ w.toNat / 256 % 65536 = 0 := by
  simp only [← BitVec.toNat_inj, cmdReg_toNat, cmdArg_toNat, BitVec.toNat_ofNat]
  omega

/-- The bits of ARG above SLOT are bits 23:17 (30_encoding.md R78, R83). -/
theorem cmdArg_aboveSlot_eq_zero_iff (w : Word) :
    (cmdArg w).extractLsb' 1 7 = 0#7 ↔ w.toNat / 131072 % 128 = 0 := by
  simp only [← BitVec.toNat_inj, BitVec.extractLsb'_toNat, cmdArg_toNat, Nat.shiftRight_eq_div_pow,
    BitVec.toNat_ofNat]
  omega

/-! ### ILLEGAL words are rejected -/

/-- The decoder rejects every ILLEGAL word: by its reserved fields, else by its opcode and the operand bits that must be
zero for it (30_encoding.md R79, R85; 60_exceptions.md R182). -/
theorem decodeCommand_error_of_illegalWord {w : Word} (h : illegalWord w) : ∃ e, decodeCommand w = .error e := by
  by_cases hrsv : cmdRsv1 w ≠ 0#8 ∨ cmdRsv0 w ≠ 0#4
  · exact ⟨.reservedBits, if_pos hrsv⟩
  rw [illegalWord, ← or_assoc, ← cmdRsv_ne_zero_iff, ← or_assoc (a := w.toNat % 16 = 0)] at h
  rw [decodeCommand, if_neg hrsv]
  obtain h | hop | ⟨hop, hz⟩ | ⟨hop, hz⟩ := h
  · exact absurd h hrsv
  · have hne {n : Nat} (h1 : 1 ≤ n) (h6 : n ≤ 6) : cmdOp w ≠ BitVec.ofNat 4 n := by
      rw [ne_eq, cmdOp_eq_ofNat_iff w (by omega)]
      omega
    iterate 6 rw [if_neg (hne (by decide) (by decide))]
    exact ⟨.reservedOpcode, rfl⟩
  · rw [← cmdOp_eq_ofNat_iff w (by decide), ← cmdOp_eq_ofNat_iff w (by decide)] at hop
    rw [ne_eq, ← cmdReg_cmdArg_eq_zero_iff] at hz
    obtain hop | hop := hop <;> exact ⟨.operandNotZero, by simp [hop, hz]⟩
  · rw [← cmdOp_eq_ofNat_iff w (by decide)] at hop
    rw [ne_eq, ← cmdArg_aboveSlot_eq_zero_iff] at hz
    exact ⟨.operandNotZero, by simp [hop, hz]⟩

/-! ### A CMD write -/

/-- A Host write to CMD out of reset issues the word (41_transport.md R125). -/
theorem step_commandWrite {s : State} {w : Word} {rest : List Event}
    (hs : s.script = .host (.write 0x000 4 w) :: rest) (hr : s.inReset = false) :
    step s = issue w { s with script := rest } := by
  rw [step_write hs (by decide) (by decide), hostWrite, if_neg (by simp [hr]), if_pos rfl]

/-- A word that does not decode, issued to an idle engine, completes as ILLEGAL (60_exceptions.md R182). -/
theorem issue_of_decodeCommand_error {s : State} {w : Word} {e : DecodeError} (hb : s.status.busy = false)
    (he : decodeCommand w = .error e) : issue w s = .next (s.complete 0#32 .illegal) := by
  rw [issue, if_neg (by simp [hb]), he]

/-- What an idle engine's completion with an engine error records: DONE, FAIL, ERR and CODE = 0, nothing else
(41_transport.md R126). -/
theorem State.complete_error_of_idle {s : State} {e : EngineError} (hb : s.status.busy = false) (he : e ≠ .none)
    (c : Word) : s.complete c e = { s with
      status := { s.status with done := true, fail := true, err := e }
      code := 0#32
      latch := none } := by
  simp [State.complete, Status.completed, hb, he]

/-! ## The obligations -/

/-- Settles O23: an ILLEGAL word does not decode (`decodeCommand_error_of_illegalWord`), so the CMD write completes at
once with the ILLEGAL error. -/
theorem illegalCommandWord : Obligations.IllegalCommandWord := by
  intro s w rest hs hr hb hw
  obtain ⟨e, he⟩ := decodeCommand_error_of_illegalWord hw
  rw [step_commandWrite hs hr, issue_of_decodeCommand_error (s := { s with script := rest }) hb he,
    State.complete_error_of_idle (s := { s with script := rest }) hb (by decide)]

end Sys2Proof.Machine

/-! Proofs about the primitives on the bus (40_session.md sections 2 and 3): when a primitive fails, what a failing one
leaves, and the statements settled from it. -/

namespace Sys2Proof.Machine

/-- The answer fails the primitive at its own index, if it reports an error at all (40_session.md R109). -/
theorem Bus.failsHere_iff (t : Transfer) (b : Bus) : b.failsHere t = true ↔ t.code ≠ 0#32 ∧ t.k = b.k := by
  simp [Bus.failsHere]

/-- WR by the answer: failed at this index, or the queue goes on (40_session.md R113). -/
theorem Bus.write_eq (v : Byte) (n : Nat) (t : Transfer) (b : Bus) :
    b.write v n t = if t.code ≠ 0#32 ∧ t.k = b.k then b.stopFailed n t (.write v) else b.ran (.write v) :=
  if_congr (b.failsHere_iff t) rfl rfl

/-- A failing primitive stands on the wire before the STOP that may follow it (40_session.md R109, R123). -/
theorem Bus.stopFailed_eq (n : Nat) (t : Transfer) (ev : WireEvent) (b : Bus) :
    b.stopFailed n t ev = { b with
      plan := none
      code := t.code
      wire := b.wire ++ [ev] ++ (if Config.freeStop n then [.stop] else [])
      held := Config.freeHeld n && !Config.freeStop n } := by
  simp [Bus.stopFailed]

/-- WR given inside a submission answered `t`. -/
theorem exec_wr_of_plan {s : State} {t : Transfer} (hp : s.bus.plan = some t) (v : Byte) :
    exec (.wr v) s = .next { s with bus := s.bus.write v s.draws t, draws := s.draws + 1 } :=
  congrArg Host.Outcome.next (onBus_planned hp _)

/-! ## The obligations -/

/-- Settles O50: WR runs on the submission's bus (`exec_wr_of_plan`) and either fails at this index or goes on
(`Bus.write_eq`); the STOP and the hold after a failure are the values drawn here. -/
theorem writeByteOnBus : Obligations.WriteByteOnBus := by
  intro s t v hp
  refine ⟨s.draws + 1, Config.freeStop s.draws, Config.freeHeld s.draws, ?_⟩
  rw [exec_wr_of_plan hp, Bus.write_eq, Bus.stopFailed_eq, Bus.ran]

end Sys2Proof.Machine

/-! Proofs about the register framer (41_transport.md): the rules for a completion by the Bus Controller's code, for the
queues of a register write and a register read, and for the bytes a read leaves in RXBUF; then the commands' steps. -/

namespace Sys2Proof.Machine

/-! ### Bytes written to memory -/

/-- A byte of a run written at rising addresses reads back. -/
theorem getElem?_eq_read_writeBytes {m : Memory} (hm : Memory.wf m = true) (a : Nat) {vs : List Byte} {i : Nat}
    (hi : i < vs.length) : vs[i]? = some (Memory.read (Memory.writeBytes m a vs) (a + i)) := by
  rw [read_writeBytes hm, if_pos (by omega), Nat.add_sub_cancel_left, List.getElem?_eq_getElem hi, Option.getD_some]

/-- Outside the run written every byte reads as before. -/
theorem read_writeBytes_outside {m : Memory} (hm : Memory.wf m = true) {a b : Nat} {vs : List Byte}
    (hb : ¬(a ≤ b ∧ b < a + vs.length)) : Memory.read (Memory.writeBytes m a vs) b = Memory.read m b := by
  rw [read_writeBytes hm]
  split
  · rw [List.getElem?_eq_none (by omega), Option.getD_none]
  · rfl

/-! ### Completion and the latch -/

/-- Completion by a Bus Controller code: CODE is that code, FAIL says whether it is an error, and there is no engine
error (41_transport.md R126). -/
theorem State.complete_none (c : Word) (s : State) : s.complete c .none = { s with
    status := { s.status with busy := false, done := true, fail := decide (c ≠ 0#32), err := .none }
    code := c
    latch := none } := by
  simp [State.complete, Status.completed]

/-- A command of one request, latched at its sub-step, takes its Engine step (10_state.md R43). -/
theorem State.withXfer_eq {s : State} {l : Latch} (hl : s.latch = some l) (hx : l.step = .xfer)
    (f : Latch → Result State) : s.withXfer f = f l := by
  simp [State.withXfer, State.withLatch, hl, hx]

/-! ### The queues -/

/-- The queue of a register write, word by word (41_transport.md R129). -/
theorem queueOf_writeBody_payload (addr : BitVec 7) (reg : Byte) (s : State) (n : Nat) :
    queueOf (writeBody addr reg (s.payload n)) =
      [startWord, wrWord (addrWrite addr), wrWord reg] ++ (List.range n).map (fun i => wrWord (s.txByte i))
        ++ [stopWord] := by
  simp [queueOf, writeBody, State.payload, Function.comp_def]

/-- The queue of a register read, word by word (41_transport.md R134). -/
theorem queueOf_readBody (addr : BitVec 7) (reg : Byte) (n : Nat) :
    queueOf (readBody addr reg n) =
      [startWord, wrWord (addrWrite addr), wrWord reg, startWord, wrWord (addrRead addr)]
        ++ List.replicate (n - 1) rdAckWord ++ [rdNackWord, stopWord] := by
  simp [queueOf, readBody]

/-- A successful answer to the read queue holds n bytes (41_transport.md R135, 40_session.md R108). -/
theorem length_rx_of_nextTransfer_readQueue {s : State} {addr : BitVec 7} {reg : Byte} {n : Nat} {t : Transfer}
    (hn : 1 ≤ n) (ht : s.nextTransfer (queueOf (readBody addr reg n)) = some t) (hc : t.code = 0#32) :
    t.rx.length = n := by
  obtain ⟨hsuccess, -⟩ := legalFor_iff.mp (nextTransfer_legal (by simp [queueOf]) ht)
  exact (hsuccess hc).2.trans (numReads_readQueue addr reg hn)

/-! ### What a read leaves in RXBUF -/

/-- A register read of n bytes writes at most RXBUF[0..n): on success the bytes read, in order, else free ones
(41_transport.md R136, R137). -/
theorem State.landRead_eq (n : Nat) (t : Transfer) (s : State) :
    ∃ bytes d, s.landRead n t = { s with mem := Memory.writeBytes s.mem rxBase bytes, draws := d } ∧
      bytes.length ≤ n ∧ (t.code = 0#32 → bytes = t.rx.take n) := by
  by_cases hc : t.code = 0#32
  · exact ⟨t.rx.take n, s.draws, by rw [State.landRead, if_pos hc, State.storeRx], List.length_take_le ..,
      fun _ => rfl⟩
  · exact ⟨freeRun s.draws n, s.draws + n, by rw [State.landRead, if_neg hc, State.spoilRx], by simp [freeRun],
      fun h => absurd h hc⟩

/-! ### The commands -/

/-- The Engine step of WRITE_REG: one session with its queue, then completion by the answer's code. -/
theorem exec_writeReg_transacted {s : State} {l : Latch} {reg : Byte} {n : Nat} {t : Transfer}
    (hb : s.status.busy = true) (hl : s.latch = some l) (hx : l.step = .xfer) (hs : s.sess = .none)
    (hn : n ≤ s.nBuf) (ht : s.nextTransfer (queueOf (writeBody l.ldev.addr reg (s.payload n))) = some t) :
    exec (.writeReg reg n) s =
      .next ((s.transacted l.ldev.chan (writeBody l.ldev.addr reg (s.payload n)) t).complete t.code .none) := by
  have hfit : (writeBody l.ldev.addr reg (s.payload n)).length < s.qMax := by
    rw [length_writeBody, length_payload, State.qMax]
    omega
  rw [exec, execWriteReg, if_pos hb, writeRegStep, State.withXfer_eq hl hx, transact_eq _ hs hfit, ht, andThen_next_eq]

/-- The Engine step of READ_REG: one session with its queue, the bytes landed, then completion by the answer's code. -/
theorem exec_readReg_transacted {s : State} {l : Latch} {reg : Byte} {n : Nat} {t : Transfer}
    (hb : s.status.busy = true) (hl : s.latch = some l) (hx : l.step = .xfer) (hs : s.sess = .none)
    (h1 : 1 ≤ n) (hn : n ≤ s.nBuf) (ht : s.nextTransfer (queueOf (readBody l.ldev.addr reg n)) = some t) :
    exec (.readReg reg n) s = .next
      (((s.transacted l.ldev.chan (readBody l.ldev.addr reg n) t).landRead n t).complete t.code .none) := by
  have hfit : (readBody l.ldev.addr reg n).length < s.qMax := by
    rw [length_readBody _ _ h1, State.qMax]
    omega
  rw [exec, execReadReg, if_pos hb, readRegStep, State.withXfer_eq hl hx, if_neg (by omega), transact_eq _ hs hfit, ht,
    andThen_next_eq]

/-- The Engine step of READ_REG whatever the answer, field by field: the whole next state but the bus side, with the
bytes written to RXBUF. -/
theorem exec_readReg_transfers {s : State} {l : Latch} {reg : Byte} {n : Nat} {t : Transfer}
    (hb : s.status.busy = true) (hl : s.latch = some l) (hx : l.step = .xfer) (hs : s.sess = .none)
    (h1 : 1 ≤ n) (hn : n ≤ s.nBuf) (ht : s.nextTransfer (queueOf (readBody l.ldev.addr reg n)) = some t) :
    ∃ bytes b d, exec (.readReg reg n) s = .next { s with
      status := { s.status with busy := false, done := true, fail := decide (t.code ≠ 0#32), err := .none }
      code := t.code
      mem := Memory.writeBytes s.mem rxBase bytes
      latch := none
      sess := .none
      pq := []
      history := s.history ++ [⟨.submit l.ldev.chan (queueOf (readBody l.ldev.addr reg n)) 500, .transfer t⟩]
      answers := s.answers.tail
      bus := b
      draws := d } ∧
      bytes.length ≤ n ∧ (t.code = 0#32 → bytes = t.rx.take n) := by
  obtain ⟨b, d, hframe⟩ := transacted_frame l.ldev.chan (readBody l.ldev.addr reg n) t s
  obtain ⟨bytes, d', hland, hbytes⟩ :=
    State.landRead_eq n t (s.transacted l.ldev.chan (readBody l.ldev.addr reg n) t)
  refine ⟨bytes, b, d', ?_, hbytes⟩
  rw [exec_readReg_transacted hb hl hx hs h1 hn ht, State.complete_none, hland, hframe, Config.timeoutMs]

/-! ## The obligations -/

/-- Settles O29: WRITE_REG's step is one session and a completion (`exec_writeReg_transacted`); what they change is
`transacted_frame` and `State.complete_none`. -/
theorem writeRegTransfers : Obligations.WriteRegTransfers := by
  rintro s l reg n q t hb hl hx hs hn rfl ht
  rw [← queueOf_writeBody_payload] at ht ⊢
  obtain ⟨b, d, hframe⟩ := transacted_frame l.ldev.chan (writeBody l.ldev.addr reg (s.payload n)) t s
  refine ⟨b, d, ?_⟩
  rw [exec_writeReg_transacted hb hl hx hs hn ht, State.complete_none, hframe, Config.timeoutMs]

/-- Settles O30: the bytes written are those of the answer, which holds exactly n (`exec_readReg_transfers`,
`length_rx_of_nextTransfer_readQueue`); they read back, and every other byte as before. -/
theorem readRegSucceeds : Obligations.ReadRegSucceeds := by
  rintro s l reg n q t hb hl hx hs h1 hn hm rfl ht hc
  rw [← queueOf_readBody] at ht ⊢
  have hlen : t.rx.length = n := length_rx_of_nextTransfer_readQueue h1 ht hc
  obtain ⟨bytes, b, d, hexec, -, hbytes⟩ := exec_readReg_transfers hb hl hx hs h1 hn ht
  obtain rfl : bytes = t.rx := by rw [hbytes hc, ← hlen, List.take_length]
  refine ⟨_, b, d, by simpa [hc] using hexec, hlen, wf_writeBytes hm _ _, fun i hi => ?_, fun a ha => ?_⟩
  · exact getElem?_eq_read_writeBytes hm rxBase (hlen ▸ hi)
  · exact read_writeBytes_outside hm (hlen ▸ ha)

/-- Settles O31: whatever bytes the failed read leaves, there are at most n of them from RXBUF[0] on
(`exec_readReg_transfers`), so every other byte reads as before. -/
theorem readRegFails : Obligations.ReadRegFails := by
  rintro s l reg n q t hb hl hx hs h1 hn hm rfl ht hc
  rw [← queueOf_readBody] at ht ⊢
  obtain ⟨bytes, b, d, hexec, hle, -⟩ := exec_readReg_transfers hb hl hx hs h1 hn ht
  refine ⟨_, b, d, by simpa [hc] using hexec, wf_writeBytes hm _ _, fun a ha => ?_⟩
  exact read_writeBytes_outside hm (by omega)

/-- Settles O25: size 0 never exceeds N_BUF, so the idle engine completes the command at once with code 0
(`State.complete_none`). -/
theorem readRegOfSizeZero : Obligations.ReadRegOfSizeZero := by
  intro s reg hb
  rw [exec, execReadReg, if_neg (by simp [hb]), if_neg (Nat.not_lt_zero _), if_pos rfl, State.complete_none]
  simp [hb]

end Sys2Proof.Machine

/-! Proofs about the façade commands (42_facade.md): a façade completion, INIT's requests and its whole run, what a
port read leaves, READ_PORT and READ_BOTH, what each step does to DIAG, and the statements settled from it. -/

namespace Sys2Proof.Machine

/-! ### Completion and the latch -/

/-- A façade completion records the code, and its context in DIAG if the code is not 0 (42_facade.md R167). -/
theorem State.completeFacade_eq (c : Word) (op : BitVec 4) (reg v : Byte) (s : State) :
    s.completeFacade c op reg v = { s with
      status := { s.status with busy := false, done := true, fail := decide (c ≠ 0#32), err := .none }
      code := c
      diag := if c = 0#32 then s.diag else ⟨op, reg, v⟩
      latch := none } := by
  by_cases hc : c = 0#32 <;> simp [State.completeFacade, State.complete_none, State.writeDiag, hc]

theorem State.withLatch_eq {s : State} {l : Latch} (hl : s.latch = some l) (f : Latch → Result State) :
    s.withLatch f = f l := by
  rw [State.withLatch, hl]

/-! ### Steps with no events left -/

/-- A command issued to an idle engine out of reset runs at once (41_transport.md R125). -/
theorem step_commandWrite_of_idle {s : State} {w : Word} {i : Instr} {rest : List Event}
    (hs : s.script = .host (.write 0x000 4 w) :: rest) (hr : s.inReset = false) (hb : s.status.busy = false)
    (hi : decodeCommand w = .ok i) : step s = exec i { s with script := rest } := by
  rw [step_commandWrite hs hr, issue, if_neg (by simp [hb]), hi]

/-- With no events left a latched command that is not stuck takes its Engine step (log 2). -/
theorem step_of_latched {s : State} {l : Latch} {i : Instr} (hs : s.script = []) (hb : s.status.busy = true)
    (hst : s.stuck = false) (hl : s.latch = some l) (hi : decodeCommand l.word = .ok i) : step s = exec i s := by
  simp [step, hs, engineTurn, hb, hst, hl, hi]

/-- With no events left an idle engine stays as it is (60_exceptions.md R200). -/
theorem step_of_idle {s : State} (hs : s.script = []) (hb : s.status.busy = false) : step s = .next s := by
  simp [step, hs, engineTurn, hb]

theorem run_succ_of_step {s s1 : State} (h : step s = .next s1) (k : Nat) :
    core.run (k + 1) s = core.run k s1 := by
  have hcore : core.step s = .next s1 := h
  simp only [Host.Core.run, hcore]

/-! ### INIT -/

/-- INIT's first Engine step sends the configure request (42_facade.md R150). -/
theorem exec_init_cfg {s : State} {l : Latch} {c : Option Word} (hb : s.status.busy = true)
    (hl : s.latch = some l) (hstep : l.step = .cfg) (hc : s.nextCode = some c) :
    exec .init s = .next (initAfterConfig l c
      ((s.takeReply 1).record (.config l.ldev.chan (cfgRecord l.ldev)) (Reply.ofCode c))) := by
  rw [exec, execInit, if_pos hb, initStep, State.withLatch_eq hl]
  simp only [hstep, bcAsk_next _ hc, andThen_next_eq]

/-- INIT's second Engine step sends the install request (42_facade.md R150). -/
theorem exec_init_inst {s : State} {l : Latch} {c : Option Word} (hb : s.status.busy = true)
    (hl : s.latch = some l) (hstep : l.step = .inst) (hc : s.nextCode = some c) :
    exec .init s = .next (initAfterInstall c
      ((s.takeReply 1).record (.install l.ldev.chan instRecord) (Reply.ofCode c))) := by
  rw [exec, execInit, if_pos hb, initStep, State.withLatch_eq hl]
  simp only [hstep, bcAsk_next _ hc, andThen_next_eq]

/-- The configure request answered: 0 goes on to the install request, another code completes INIT (42_facade.md
R153). -/
theorem initAfterConfig_some (l : Latch) (c : Word) (s : State) :
    initAfterConfig l (some c) s = { s with
      status := if c = 0#32 then s.status else
        { s.status with busy := false, done := true, fail := true, err := .none }
      code := if c = 0#32 then s.code else c
      diag := if c = 0#32 then s.diag else ⟨1#4, 0#8, 0#8⟩
      latch := if c = 0#32 then some { l with step := .inst } else none } := by
  by_cases hc : c = 0#32
  · simp [initAfterConfig, hc, State.toSubStep]
  · simp [initAfterConfig, hc, State.completeFacade_eq]

/-- The install request answered: either way INIT completes by the code, and 0 sets INST (42_facade.md R153, R154). -/
theorem initAfterInstall_some (c : Word) (s : State) :
    initAfterInstall (some c) s = { s with
      status := { s.status with
        busy := false
        done := true
        fail := decide (c ≠ 0#32)
        err := .none
        inst := s.status.inst || decide (c = 0#32) }
      code := c
      diag := if c = 0#32 then s.diag else ⟨1#4, 0#8, 0#8⟩
      latch := none } := by
  by_cases hc : c = 0#32
  · simp [initAfterInstall, hc, State.complete_none]
  · simp [initAfterInstall, hc, State.completeFacade_eq]

/-- Settles O32: the configure request is sent and answered (`exec_init_cfg`), and `initAfterConfig_some` says what the
answer does. -/
theorem initConfigures : Obligations.InitConfigures := by
  intro s l c hb hl hstep hc
  exact ⟨(s.takeReply 1).draws, by rw [exec_init_cfg hb hl hstep hc, initAfterConfig_some]; rfl⟩

/-- Settles O33: the install request is sent and answered (`exec_init_inst`), and `initAfterInstall_some` says what the
answer does. -/
theorem initInstalls : Obligations.InitInstalls := by
  intro s l c hb hl hstep hc
  exact ⟨(s.takeReply 1).draws, by rw [exec_init_inst hb hl hstep hc, initAfterInstall_some]; rfl⟩

theorem nextCode_of_supplied {s : State} {c : Word} {rest : List Reply} (h : s.answers = .code c :: rest) :
    s.nextCode = some (some c) := by
  rw [State.nextCode, h]

/-- The word of a latched INIT decodes to INIT, at either sub-step (10_state.md R43). -/
theorem decodeCommand_initLatch (d : Device) (step : SubStep) :
    decodeCommand (Latch.word ⟨1#4, 0#8, 0#8, d, step⟩) = .ok .init :=
  decode_commandWord 1#4 0#8 0#8

/-- INIT's configure step with no events left and an answer supplied. -/
theorem step_init_cfg {s : State} {d : Device} {c : Word} {rest : List Reply} (hs : s.script = [])
    (hb : s.status.busy = true) (hst : s.stuck = false) (hl : s.latch = some ⟨1#4, 0#8, 0#8, d, .cfg⟩)
    (ha : s.answers = .code c :: rest) :
    step s = .next (initAfterConfig ⟨1#4, 0#8, 0#8, d, .cfg⟩ (some c)
      ((s.takeReply 1).record (.config d.chan (cfgRecord d)) (.code c))) := by
  rw [step_of_latched hs hb hst hl (decodeCommand_initLatch d .cfg),
    exec_init_cfg hb hl rfl (nextCode_of_supplied ha), Reply.ofCode]

/-- INIT's install step with no events left and an answer supplied. -/
theorem step_init_inst {s : State} {d : Device} {c : Word} {rest : List Reply} (hs : s.script = [])
    (hb : s.status.busy = true) (hst : s.stuck = false) (hl : s.latch = some ⟨1#4, 0#8, 0#8, d, .inst⟩)
    (ha : s.answers = .code c :: rest) :
    step s = .next (initAfterInstall (some c)
      ((s.takeReply 1).record (.install d.chan instRecord) (.code c))) := by
  rw [step_of_latched hs hb hst hl (decodeCommand_initLatch d .inst),
    exec_init_inst hb hl rfl (nextCode_of_supplied ha), Reply.ofCode]

/-- Settles O35: the CMD write is accepted and the configure request answered (`step_init_cfg`); after a failure the
engine is idle, after a success the install request is answered too (`step_init_inst`). -/
theorem initRunsToCompletion : Obligations.InitRunsToCompletion := by
  intro s c1 c2 rest hs hr hb hst ha
  have haccept : step s = .next (({ s with script := [] } : State).markReinit.accept 1#4 0#8 0#8 .cfg) := by
    rw [step_commandWrite_of_idle hs hr hb (i := .init) (by decide), exec, execInit, if_neg (by simp [hb])]
  have hconfig := step_init_cfg (s := ({ s with script := [] } : State).markReinit.accept 1#4 0#8 0#8 .cfg)
    (d := s.device) (by simp) rfl (by simpa) (by simp) (by simpa using ha)
  rw [run_succ_of_step haccept, run_succ_of_step hconfig, initAfterConfig_some]
  by_cases h1 : c1 = 0#32
  · refine ⟨_, run_succ_of_step (step_init_inst (d := s.device) (c := c2) (rest := rest) (by simp)
      (by simp [h1, Status.accepted]) (by simpa) (by simp [h1]) (by simp [ha])) 0, ?_⟩
    simp [initAfterInstall_some, h1, ha, cfgRecord, instRecord, Config.busFreqHz, Status.accepted]
  · refine ⟨_, run_succ_of_step (step_of_idle (by simp) (by simp [h1])) 0, ?_⟩
    simp [h1, ha, cfgRecord, Config.busFreqHz, Status.accepted]

/-! ### Port reads -/

/-- The queue of a port read, word by word (42_facade.md R158). -/
theorem queueOf_readBody_one (addr : BitVec 7) (reg : Byte) :
    queueOf (readBody addr reg 1) =
      [startWord, wrWord (addrWrite addr), wrWord reg, startWord, wrWord (addrRead addr), rdNackWord, stopWord] :=
  rfl

/-- What a port read leaves, the session and the landing together: RXBUF[0] and, on success, the cache slot hold the
byte read; on failure RXBUF[0] is free and the cache stays (42_facade.md R159, R160). -/
theorem portRead_eq {s : State} {d : Device} {reg : Byte} {t : Transfer} (slot : Slot)
    (ht : s.nextTransfer (queueOf (readBody d.addr reg 1)) = some t) :
    ∃ v b n, (s.transacted d.chan (readBody d.addr reg 1) t).landPort slot t = { s with
      mem := Memory.write s.mem rxBase v
      cacheA := if t.code = 0#32 ∧ slot = .portA then v else s.cacheA
      cacheB := if t.code = 0#32 ∧ slot = .portB then v else s.cacheB
      sess := .none
      pq := []
      history := s.history ++ [⟨.submit d.chan (queueOf (readBody d.addr reg 1)) 500, .transfer t⟩]
      answers := s.answers.tail
      bus := b
      draws := n } ∧
      (t.code = 0#32 → t.rx = [v]) := by
  obtain ⟨b, n, hframe⟩ := transacted_frame d.chan (readBody d.addr reg 1) t s
  rw [hframe, State.landPort, Config.timeoutMs]
  by_cases hc : t.code = 0#32
  · obtain ⟨v, hrx⟩ := List.length_eq_one_iff.mp (length_rx_of_nextTransfer_readQueue le_rfl ht hc)
    refine ⟨v, b, n, ?_, fun _ => hrx⟩
    cases slot <;> simp [State.landRead, State.storeRx, State.setCache, Memory.writeBytes, hc, hrx]
  · refine ⟨Config.freeByte n, b, n + 1, ?_, fun h => absurd h hc⟩
    simp [State.landRead, State.spoilRx, Memory.writeBytes, freeRun, hc]

/-- A port read of one byte always fits the queue, so a free session runs it to its landing. -/
theorem readPortBody_next {s : State} {d : Device} {reg : Byte} {t : Transfer} (slot : Slot) (hs : s.sess = .none)
    (ht : s.nextTransfer (queueOf (readBody d.addr reg 1)) = some t) :
    readPortBody reg slot d s =
      .next (t, (s.transacted d.chan (readBody d.addr reg 1) t).landPort slot t) := by
  have hfit : (readBody d.addr reg 1).length < s.qMax := by
    rw [length_readBody _ _ le_rfl, State.qMax]
    omega
  rw [readPortBody, transact_eq _ hs hfit, ht, andThen_next_eq]

/-! ### READ_PORT -/

/-- The Engine step of READ_PORT: the port read, then completion by the answer's code (42_facade.md R158). -/
theorem exec_readPort_transacted {s : State} {l : Latch} {reg : Byte} {t : Transfer} (slot : Slot)
    (hb : s.status.busy = true) (hl : s.latch = some l) (hx : l.step = .xfer) (hs : s.sess = .none)
    (ht : s.nextTransfer (queueOf (readBody l.ldev.addr reg 1)) = some t) :
    exec (.readPort reg slot) s = .next
      (((s.transacted l.ldev.chan (readBody l.ldev.addr reg 1) t).landPort slot t).completeFacade
        t.code 5#4 reg 0#8) := by
  rw [exec, execReadPort, if_pos hb, readPortStep, State.withXfer_eq hl hx, readPortBody_next slot hs ht,
    andThen_next_eq]

/-- Settles O37: what the port read leaves is `portRead_eq`, its completion `State.completeFacade_eq`; the byte reads
back from RXBUF[0] and every other byte as before (`read_write`). -/
theorem readPortSucceeds : Obligations.ReadPortSucceeds := by
  rintro s l reg slot q t hb hl hx hs hm rfl ht hc
  rw [← queueOf_readBody_one] at ht ⊢
  obtain ⟨v, b, d, hland, hrx⟩ := portRead_eq slot ht
  refine ⟨v, _, b, d, hrx hc, ?_, wf_write hm rxBase v, by simp [read_write hm], fun a ha => by
    simp [read_write hm, ha]⟩
  rw [exec_readPort_transacted slot hb hl hx hs ht, hland, State.completeFacade_eq]
  cases slot <;> simp [hc]

/-- Settles O38: the same two rules, with the byte free and the cache kept. -/
theorem readPortFails : Obligations.ReadPortFails := by
  rintro s l reg slot q t hb hl hx hs hm rfl ht hc
  rw [← queueOf_readBody_one] at ht ⊢
  obtain ⟨v, b, d, hland, -⟩ := portRead_eq slot ht
  refine ⟨_, b, d, ?_, wf_write hm rxBase v, fun a ha => by simp [read_write hm, ha]⟩
  rw [exec_readPort_transacted slot hb hl hx hs ht, hland, State.completeFacade_eq]
  simp [hc]

/-! ### READ_BOTH -/

/-- READ_BOTH's first Engine step reads port A, register 0x12 (42_facade.md R161). -/
theorem exec_readBoth_a {s : State} {l : Latch} {t : Transfer} (hb : s.status.busy = true) (hl : s.latch = some l)
    (hstep : l.step = .a) (hs : s.sess = .none)
    (ht : s.nextTransfer (queueOf (readBody l.ldev.addr 0x12#8 1)) = some t) :
    exec .readBoth s = .next (readBothAfterA l t
      ((s.transacted l.ldev.chan (readBody l.ldev.addr 0x12#8 1) t).landPort .portA t)) := by
  rw [exec, execReadBoth, if_pos hb, readBothStep, State.withLatch_eq hl]
  simp only [hstep, portRegister, readPortBody_next .portA hs ht, andThen_next_eq]

/-- READ_BOTH's second Engine step reads port B, register 0x13 (42_facade.md R161). -/
theorem exec_readBoth_b {s : State} {l : Latch} {t : Transfer} (hb : s.status.busy = true) (hl : s.latch = some l)
    (hstep : l.step = .b) (hs : s.sess = .none)
    (ht : s.nextTransfer (queueOf (readBody l.ldev.addr 0x13#8 1)) = some t) :
    exec .readBoth s = .next (readBothAfterB t
      ((s.transacted l.ldev.chan (readBody l.ldev.addr 0x13#8 1) t).landPort .portB t)) := by
  rw [exec, execReadBoth, if_pos hb, readBothStep, State.withLatch_eq hl]
  simp only [hstep, portRegister, readPortBody_next .portB hs ht, andThen_next_eq]

/-- Settles O39: what the port A read leaves is `portRead_eq`; then code 0 goes on to port B, and another code completes
the command (`State.completeFacade_eq`) with RESULT16 free. -/
theorem readBothReadsPortA : Obligations.ReadBothReadsPortA := by
  rintro s l q t hb hl hstep hs hm rfl ht
  rw [← queueOf_readBody_one] at ht ⊢
  obtain ⟨v, b, d, hland, hrx⟩ := portRead_eq .portA ht
  have hread (a : Nat) (ha : a ≠ rxBase) : Memory.read (Memory.write s.mem rxBase v) a = Memory.read s.mem a := by
    simp [read_write hm, ha]
  rw [exec_readBoth_a hb hl hstep hs ht, hland, readBothAfterA]
  by_cases hc : t.code = 0#32
  · refine ⟨_, s.result16, v, b, d, by simp [hc, State.toSubStep], wf_write hm rxBase v, hread,
      fun _ => ⟨rfl, hrx hc, by simp [read_write hm]⟩, fun h => absurd hc h⟩
  · refine ⟨_, Config.freeHalf d, s.cacheA, b, d + 1, ?_, wf_write hm rxBase v, hread, fun h => absurd h hc,
      fun _ => rfl⟩
    simp [hc, State.completeFacade_eq, State.spoilResult, portRegister]

/-- Port A in bits 7:0, port B in bits 15:8 (42_facade.md R162). -/
theorem combinePorts_toNat (a b : Byte) : (combinePorts a b).toNat = a.toNat + 256 * b.toNat := by
  have h : combinePorts a b = b ++ a := by
    rw [BitVec.append_def, BitVec.shiftLeftZeroExtend_eq, BitVec.or_comm]
    rfl
  rw [h, toNat_append_eq]
  omega

/-- The word of a latched READ_BOTH decodes to READ_BOTH, at either sub-step (10_state.md R43). -/
theorem decodeCommand_readBothLatch (d : Device) (step : SubStep) :
    decodeCommand (Latch.word ⟨6#4, 0#8, 0#8, d, step⟩) = .ok .readBoth :=
  decode_commandWord 6#4 0#8 0#8

/-- A supplied success with one byte is the answer a port read gets (40_session.md R108). -/
theorem nextTransfer_portRead_of_supplied {s : State} {v : Byte} {rest : List Reply} (addr : BitVec 7) (reg : Byte)
    (h : s.answers = .transfer ⟨0#32, 7, [v]⟩ :: rest) :
    s.nextTransfer (queueOf (readBody addr reg 1)) = some ⟨0#32, 7, [v]⟩ := by
  have hlegal : (⟨0#32, 7, [v]⟩ : Transfer).legalFor (queueOf (readBody addr reg 1)) = true :=
    legalFor_iff.mpr ⟨fun _ => ⟨rfl, (numReads_readQueue addr reg le_rfl).symm⟩, fun h => absurd rfl h⟩
  simp only [State.nextTransfer, h, hlegal, if_true]

/-- The landing of a successful port read of one byte (42_facade.md R159). -/
theorem State.landPort_success (slot : Slot) (v : Byte) (k : Nat) (s : State) :
    s.landPort slot ⟨0#32, k, [v]⟩ = State.setCache slot v { s with mem := Memory.write s.mem rxBase v } :=
  rfl

/-- READ_BOTH's port A step with no events left and a success supplied: the byte lands, port B comes next. -/
theorem step_readBoth_a {s : State} {d : Device} {v : Byte} {rest : List Reply} (hs : s.script = [])
    (hb : s.status.busy = true) (hst : s.stuck = false) (hl : s.latch = some ⟨6#4, 0#8, 0#8, d, .a⟩)
    (hsess : s.sess = .none) (ha : s.answers = .transfer ⟨0#32, 7, [v]⟩ :: rest) :
    step s = .next (State.toSubStep ⟨6#4, 0#8, 0#8, d, .a⟩ .b
      ((s.transacted d.chan (readBody d.addr 0x12#8 1) ⟨0#32, 7, [v]⟩).landPort .portA ⟨0#32, 7, [v]⟩)) := by
  have ht := nextTransfer_portRead_of_supplied d.addr 0x12#8 ha
  rw [step_of_latched hs hb hst hl (decodeCommand_readBothLatch d .a), exec_readBoth_a hb hl rfl hsess ht,
    readBothAfterA, if_neg (by simp)]

/-- READ_BOTH's port B step with no events left and a success supplied: the byte lands, the command completes. -/
theorem step_readBoth_b {s : State} {d : Device} {v : Byte} {rest : List Reply} (hs : s.script = [])
    (hb : s.status.busy = true) (hst : s.stuck = false) (hl : s.latch = some ⟨6#4, 0#8, 0#8, d, .b⟩)
    (hsess : s.sess = .none) (ha : s.answers = .transfer ⟨0#32, 7, [v]⟩ :: rest) :
    step s = .next (readBothAfterB ⟨0#32, 7, [v]⟩
      ((s.transacted d.chan (readBody d.addr 0x13#8 1) ⟨0#32, 7, [v]⟩).landPort .portB ⟨0#32, 7, [v]⟩)) := by
  have ht := nextTransfer_portRead_of_supplied d.addr 0x13#8 ha
  rw [step_of_latched hs hb hst hl (decodeCommand_readBothLatch d .b), exec_readBoth_b hb hl rfl hsess ht]

/-- With no command latched RESULT reads RESULT16 (10_state.md R37). -/
theorem State.windowRead_result_of_latch_none {s : State} (h : s.latch = none) :
    (s.windowRead 0x010).toNat = s.result16.toNat := by
  have hread : s.windowRead 0x010 = 0#16 ++ s.result16 := by
    show s.resultSeen = _
    rw [State.resultSeen, h]
  rw [hread, toNat_append_eq, BitVec.toNat_ofNat, Nat.zero_mod, Nat.zero_mul, Nat.zero_add]

/-- Settles O41: the CMD write is accepted, the port A step stores its byte (`step_readBoth_a`), and the port B step
stores its own and combines the two (`step_readBoth_b`, `combinePorts_toNat`). -/
theorem readBothCombines : Obligations.ReadBothCombines := by
  intro s va vb rest hs hr hb hst hsess hm hn ha
  have haccept : step s = .next (State.accept 6#4 0#8 0#8 .a { s with script := [] }) := by
    rw [step_commandWrite_of_idle hs hr hb (i := .readBoth) (by decide), exec, execReadBoth, if_neg (by simp [hb])]
  have hA := step_readBoth_a (s := State.accept 6#4 0#8 0#8 .a { s with script := [] }) rfl rfl hst rfl hsess ha
  rw [run_succ_of_step haccept, run_succ_of_step hA]
  refine ⟨_, run_succ_of_step (step_readBoth_b (d := s.device) (v := vb) (rest := rest) (by simp)
    (by simp [Status.accepted]) (by simpa) (by simp) (by simp) (by simp [ha])) 0, ?_⟩
  rw [State.windowRead_result_of_latch_none (by simp [readBothAfterB])]
  have hwf := wf_write hm rxBase va
  have hpos : 0 < s.nBuf := hn
  simp [readBothAfterB, State.landPort_success, State.setCache, State.complete_none, combinePorts_toNat, State.rxByte,
    Status.accepted, read_write hwf, queueOf_readBody_one, Config.timeoutMs, ha, hpos]

/-! ### DIAG -/

/-- The read value of DIAG as a number: each field at its bits, 0 elsewhere (10_state.md R38). -/
theorem Diag.word_toNat (d : Diag) :
    d.word.toNat = d.op.toNat + 256 * d.reg.toNat + 65536 * d.value.toNat := by
  simp only [Diag.word, toNat_append_eq, BitVec.toNat_ofNat]
  omega

/-- What a failure of this instruction's next Engine step would write to DIAG: nothing while the engine is idle, else by
the latched sub-step (42_facade.md R167). -/
def State.failureDiag (i : Instr) (s : State) : Option Diag :=
  if s.status.busy then s.latch.bind fun l => facadeDiag i l.step else none

theorem State.failureDiag_of_idle {s : State} (hb : s.status.busy = false) (i : Instr) : s.failureDiag i = none := by
  simp [State.failureDiag, hb]

theorem State.failureDiag_of_latched {s : State} {l : Latch} (hb : s.status.busy = true) (hl : s.latch = some l)
    (i : Instr) : s.failureDiag i = facadeDiag i l.step := by
  simp [State.failureDiag, hb, hl]

/-- Only a façade command has a failure context (41_transport.md R139). -/
theorem State.failureDiag_eq_none {i : Instr} (hi : ∀ step, facadeDiag i step = none) (s : State) :
    s.failureDiag i = none := by
  simp [State.failureDiag, hi]

/-- DIAG was `old`, and in `s'` it is the failure context `dg` if a command has completed there with a nonzero code,
else still `old` (42_facade.md R167). -/
def State.DiagFollows (old : Diag) (dg : Option Diag) (s' : State) : Prop :=
  s'.diag = if s'.latch = none ∧ s'.code ≠ 0#32 then dg.getD old else old

/-- With no failure context DIAG stays. -/
theorem State.diagFollows_none {old : Diag} {s' : State} : State.DiagFollows old none s' ↔ s'.diag = old := by
  simp [State.DiagFollows]

/-- A step that does not complete the command, or completes it with code 0, leaves DIAG. -/
theorem State.diagFollows_of_not_failed {old : Diag} {dg : Option Diag} {s' : State}
    (hf : ¬(s'.latch = none ∧ s'.code ≠ 0#32)) (h : s'.diag = old) : State.DiagFollows old dg s' := by
  rw [State.DiagFollows, if_neg hf, h]

/-- A façade completion follows its own context. -/
theorem State.completeFacade_diagFollows {s : State} {old : Diag} (h : s.diag = old) (c : Word) (op : BitVec 4)
    (reg v : Byte) : State.DiagFollows old (some ⟨op, reg, v⟩) (s.completeFacade c op reg v) := by
  by_cases hc : c = 0#32 <;> simp [State.DiagFollows, State.completeFacade_eq, hc, h]

/-! ### DIAG by the command -/

theorem initAfterConfig_diagFollows {s : State} {l : Latch} (hl : s.latch = some l) (c : Option Word) :
    State.DiagFollows s.diag (some ⟨1#4, 0#8, 0#8⟩) (initAfterConfig l c s) := by
  cases c with
  | none => exact State.diagFollows_of_not_failed (by simp [initAfterConfig, hl]) rfl
  | some c =>
    rw [initAfterConfig]
    split
    · exact State.completeFacade_diagFollows rfl c 1#4 0#8 0#8
    · exact State.diagFollows_of_not_failed (by simp) rfl

theorem initAfterInstall_diagFollows {s : State} {l : Latch} (hl : s.latch = some l) (c : Option Word) :
    State.DiagFollows s.diag (some ⟨1#4, 0#8, 0#8⟩) (initAfterInstall c s) := by
  cases c with
  | none => exact State.diagFollows_of_not_failed (by simp [initAfterInstall, hl]) rfl
  | some c =>
    rw [initAfterInstall]
    split
    · exact State.completeFacade_diagFollows rfl c 1#4 0#8 0#8
    · exact State.diagFollows_of_not_failed (by simp [State.complete_none]) rfl

theorem readBothAfterA_diagFollows (l : Latch) (t : Transfer) (s : State) :
    State.DiagFollows s.diag (some ⟨6#4, 0x12#8, 0#8⟩) (readBothAfterA l t s) := by
  rw [readBothAfterA]
  split
  · exact State.completeFacade_diagFollows rfl t.code 6#4 0x12#8 0#8
  · exact State.diagFollows_of_not_failed (by simp) rfl

theorem readBothAfterB_diagFollows (t : Transfer) (s : State) :
    State.DiagFollows s.diag (some ⟨6#4, 0x13#8, 0#8⟩) (readBothAfterB t s) := by
  rw [readBothAfterB]
  split
  · exact State.completeFacade_diagFollows rfl t.code 6#4 0x13#8 0#8
  · exact State.diagFollows_of_not_failed (by simp [State.complete_none]) rfl

theorem execInit_diagFollows {s s' : State} (h : execInit s = .next s') :
    State.DiagFollows s.diag (s.failureDiag .init) s' := by
  obtain ⟨hb, rfl⟩ | ⟨hb, l, c, hl, -, ⟨-, rfl⟩ | ⟨-, rfl⟩⟩ := execInit_cases h
  · rw [State.failureDiag_of_idle hb, State.diagFollows_none]
    simp
  · rw [State.failureDiag_of_latched hb hl]
    exact initAfterConfig_diagFollows (by simpa using hl) c
  · rw [State.failureDiag_of_latched hb hl]
    exact initAfterInstall_diagFollows (l := l) (by simpa using hl) c

theorem execReadBoth_diagFollows {s s' : State} (h : execReadBoth s = .next s') :
    State.DiagFollows s.diag (s.failureDiag .readBoth) s' := by
  obtain ⟨hb, rfl⟩ | ⟨hb, l, t, hl, -, ⟨hstep, -, rfl⟩ | ⟨hstep, -, rfl⟩⟩ := execReadBoth_cases h
  · rw [State.failureDiag_of_idle hb, State.diagFollows_none]
    rfl
  · simpa [State.failureDiag_of_latched hb hl, facadeDiag, hstep] using readBothAfterA_diagFollows l t
      ((s.transacted l.ldev.chan (readBody l.ldev.addr 0x12#8 1) t).landPort .portA t)
  · simpa [State.failureDiag_of_latched hb hl, facadeDiag, hstep] using readBothAfterB_diagFollows t
      ((s.transacted l.ldev.chan (readBody l.ldev.addr 0x13#8 1) t).landPort .portB t)

/-- What any instruction does to DIAG (42_facade.md R167). -/
theorem exec_diagFollows {i : Instr} {s s' : State} (h : exec i s = .next s') :
    State.DiagFollows s.diag (s.failureDiag i) s' := by
  cases i with
  | init => exact execInit_diagFollows h
  | readBoth => exact execReadBoth_diagFollows h
  | writeConfig reg v =>
    obtain ⟨hb, rfl⟩ | ⟨hb, l, t, hl, -, -, -, rfl⟩ := execWriteConfig_cases h
    · rw [State.failureDiag_of_idle hb, State.diagFollows_none]
      rfl
    · rw [State.failureDiag_of_latched hb hl]
      exact State.completeFacade_diagFollows (by simp) t.code 4#4 reg v
  | readPort reg slot =>
    obtain ⟨hb, rfl⟩ | ⟨hb, l, t, hl, -, -, -, rfl⟩ := execReadPort_cases h
    · rw [State.failureDiag_of_idle hb, State.diagFollows_none]
      rfl
    · rw [State.failureDiag_of_latched hb hl]
      exact State.completeFacade_diagFollows (by simp) t.code 5#4 reg 0#8
  | writeReg reg n =>
    rw [State.failureDiag_eq_none fun _ => rfl, State.diagFollows_none]
    obtain ⟨-, -, rfl⟩ | ⟨-, -, rfl⟩ | ⟨-, l, t, -, -, -, -, rfl⟩ := execWriteReg_cases h <;> simp
  | readReg reg n =>
    rw [State.failureDiag_eq_none fun _ => rfl, State.diagFollows_none]
    obtain ⟨-, -, rfl⟩ | ⟨-, -, rfl⟩ | ⟨-, -, -, rfl⟩ | ⟨-, l, t, -, -, -, -, -, rfl⟩ := execReadReg_cases h <;> simp
  | start | stop | wr data | rdAck | rdNack =>
    rw [State.failureDiag_eq_none fun _ => rfl, State.diagFollows_none]
    cases h
    exact State.onBus_diag s _

/-! ### DIAG by the step -/

/-- An instruction with no failure context leaves DIAG. -/
theorem exec_diag_of_failureDiag_none {i : Instr} {s s' : State} (hn : s.failureDiag i = none)
    (h : exec i s = .next s') : s'.diag = s.diag :=
  State.diagFollows_none.mp (hn ▸ exec_diagFollows h)

/-- A step that is neither an Engine step of a command nor a reset leaves DIAG. -/
theorem step_runs_or_keeps_diag {s s' : State} (h : step s = .next s') (hr : ¬s.resets) :
    (∃ l i, s.running l i ∧ exec i { s with script := s.script.tail } = .next s') ∨ s'.diag = s.diag := by
  obtain ⟨-, -, rfl⟩ | hrun | ⟨off, rest, -, -, -, rfl⟩ | ⟨off, v, rest, -, -, -, hw⟩ | ⟨p, i, rest, -, hp, hexec⟩ |
    ⟨rest, hs, -⟩ | ⟨rest, -, rfl⟩ := step_cases h
  · exact .inr rfl
  · exact .inl hrun
  · exact .inr rfl
  · right
    obtain ⟨-, rfl⟩ | ⟨-, -, -, rfl⟩ | ⟨-, -, -, -, rfl⟩ | ⟨-, -, hb, i, -, hexec⟩ | ⟨-, -, rfl⟩ := hw
    · rfl
    · rfl
    · rfl
    · exact exec_diag_of_failureDiag_none (s := { s with script := rest }) (State.failureDiag_of_idle hb i) hexec
    · exact State.windowWrite_diag ..
  · have hi (step : SubStep) : facadeDiag i step = none := by
      obtain rfl | rfl | ⟨b, rfl⟩ | rfl | rfl := decodePrim_prim hp <;> rfl
    exact .inr (exec_diag_of_failureDiag_none (State.failureDiag_eq_none hi _) hexec :)
  · exact absurd ⟨rest, hs⟩ hr
  · exact .inr rfl

/-- The Engine step of a running command: DIAG follows the command's failure context (42_facade.md R167). -/
theorem State.running.diagFollows {s s' : State} {l : Latch} {i : Instr} (hrun : s.running l i)
    (h : exec i { s with script := s.script.tail } = .next s') :
    State.DiagFollows s.diag (facadeDiag i l.step) s' := by
  rw [← State.failureDiag_of_latched (s := { s with script := s.script.tail }) hrun.busy_eq hrun.latch_eq]
  exact (exec_diagFollows h :)

/-- Settles O43: the read value by the fields' numbers; a running command's step by `exec_diagFollows`, every other step
by `step_runs_or_keeps_diag`. -/
theorem diagRecordsFacadeFailures : Obligations.DiagRecordsFacadeFailures := by
  refine ⟨fun s => Diag.word_toNat s.diag, fun s s' h hr => ⟨fun l i dg hrun hdg hl hc => ?_, fun hnone => ?_⟩⟩
  · have hfollows := hrun.diagFollows (hrun.step_eq.symm.trans h)
    rwa [State.DiagFollows, if_pos ⟨hl, hc⟩, hdg] at hfollows
  · obtain ⟨l, i, hrun, hexec⟩ | hkeeps := step_runs_or_keeps_diag h hr
    · have hfollows := hrun.diagFollows hexec
      cases hdg : facadeDiag i l.step with
      | none => rwa [hdg, State.diagFollows_none] at hfollows
      | some dg =>
        rwa [State.DiagFollows, if_neg fun ⟨hl, hc⟩ => hnone ⟨l, i, dg, hrun, hdg, hl, hc⟩] at hfollows
    · exact hkeeps

end Sys2Proof.Machine

/-! Proofs about the errors the engine detects and the accesses the model refuses (60_exceptions.md): what an
instruction does on an idle engine, dropped writes, what a legal command word decodes to, the order of the checks at a
CMD write, and the statements settled from it. -/

namespace Sys2Proof.Machine

/-! ### What an instruction does on an idle engine -/

theorem exec_init_of_idle {s : State} (hb : s.status.busy = false) :
    exec .init s = .next (s.markReinit.accept 1#4 0#8 0#8 .cfg) := by
  rw [exec, execInit, if_neg (by simp [hb])]

theorem exec_writeReg_of_idle {s : State} (hb : s.status.busy = false) (reg : Byte) (n : Nat) :
    exec (.writeReg reg n) s = .next (if s.nBuf < n then s.complete 0#32 .size
      else s.accept 2#4 reg (BitVec.ofNat 8 n) .xfer) := by
  rw [exec, execWriteReg, if_neg (by simp [hb])]
  split <;> rfl

theorem exec_readReg_of_idle {s : State} (hb : s.status.busy = false) (reg : Byte) (n : Nat) :
    exec (.readReg reg n) s = .next (if s.nBuf < n then s.complete 0#32 .size
      else if n = 0 then s.complete 0#32 .none else s.accept 3#4 reg (BitVec.ofNat 8 n) .xfer) := by
  rw [exec, execReadReg, if_neg (by simp [hb])]
  split_ifs <;> rfl

theorem exec_writeConfig_of_idle {s : State} (hb : s.status.busy = false) (reg v : Byte) :
    exec (.writeConfig reg v) s = .next (s.accept 4#4 reg v .xfer) := by
  rw [exec, execWriteConfig, if_neg (by simp [hb])]

theorem exec_readPort_of_idle {s : State} (hb : s.status.busy = false) (reg : Byte) (slot : Slot) :
    exec (.readPort reg slot) s = .next (s.accept 5#4 reg (slotArg slot) .xfer) := by
  rw [exec, execReadPort, if_neg (by simp [hb])]

theorem exec_readBoth_of_idle {s : State} (hb : s.status.busy = false) :
    exec .readBoth s = .next (s.accept 6#4 0#8 0#8 .a) := by
  rw [exec, execReadBoth, if_neg (by simp [hb])]

/-- On an idle engine no instruction stops. -/
theorem exec_next_of_idle {s : State} (hb : s.status.busy = false) (i : Instr) : ∃ s', exec i s = .next s' := by
  cases i with
  | init => exact ⟨_, exec_init_of_idle hb⟩
  | writeReg reg n => exact ⟨_, exec_writeReg_of_idle hb reg n⟩
  | readReg reg n => exact ⟨_, exec_readReg_of_idle hb reg n⟩
  | writeConfig reg v => exact ⟨_, exec_writeConfig_of_idle hb reg v⟩
  | readPort reg slot => exact ⟨_, exec_readPort_of_idle hb reg slot⟩
  | readBoth => exact ⟨_, exec_readBoth_of_idle hb⟩
  | start | stop | wr data | rdAck | rdNack => exact ⟨_, rfl⟩

/-- Settles O24: the SIZE error is the first branch of both commands on an idle engine (`exec_writeReg_of_idle`,
`exec_readReg_of_idle`), and what it records is `State.complete_error_of_idle`. -/
theorem sizeErrorCompletes : Obligations.SizeErrorCompletes := by
  intro s reg n hb hn
  rw [exec_readReg_of_idle hb, exec_writeReg_of_idle hb, if_pos hn, if_pos hn]
  exact ⟨congrArg _ (State.complete_error_of_idle hb (by decide) _), rfl⟩

/-! ### Host writes with BUSY = 1 -/

/-- A Host write to CMD, DEVICE or TXBUF with BUSY = 1, out of reset, is dropped (60_exceptions.md R186). -/
theorem hostWrite_of_busy {s : State} {off : Nat} (v : Word) (hr : s.inReset = false) (hb : s.status.busy = true)
    (hoff : off = 0x000 ∨ off = 0x008 ∨ (0x100 ≤ off ∧ off < 0x200)) : hostWrite off v s = .next s.dropWrite := by
  rw [hostWrite, if_neg (by simp [hr])]
  obtain rfl | rfl | htx := hoff
  · rw [if_pos rfl, issue, if_pos hb]
  · rw [if_neg (by decide), State.windowWrite, if_neg (by decide), if_pos rfl, if_pos hb]
  · obtain ⟨i, rfl⟩ := Nat.exists_eq_add_of_le htx.1
    rw [if_neg (by omega), State.windowWrite_txbuf _ _ (by omega), if_pos hb]

/-- Settles O16: the write is aligned and in the window, so it reaches `hostWrite`, which drops it
(`hostWrite_of_busy`). -/
theorem overrunDropsTheWrite : Obligations.OverrunDropsTheWrite := by
  intro s off v rest hs hr hb h4 hoff
  rw [step_write hs h4 (by omega), hostWrite_of_busy (s := { s with script := rest }) v hr hb hoff]
  rfl

/-! ### Refused accesses -/

/-- Each cause of R189 alone is enough for a refusal, whichever the model names. -/
theorem hostAccess_refused {a : Access} (h : a.width ≠ 4 ∨ a.offset % 4 ≠ 0 ∨ 0x400 ≤ a.offset) (s : State) :
    ∃ r, hostAccess a s = .refused r := by
  by_cases hw : a.width ≠ 4
  · exact ⟨.badWidth, if_pos hw⟩
  by_cases ha : a.offset % 4 ≠ 0
  · exact ⟨.misaligned, (if_neg hw).trans (if_pos ha)⟩
  have hout : Config.windowBytes ≤ a.offset := (h.resolve_left hw).resolve_left ha
  exact ⟨.outsideWindow, (if_neg hw).trans ((if_neg ha).trans (if_pos hout))⟩

/-- A word that decodes, issued to an idle engine, is run (41_transport.md R125). -/
theorem issue_of_decodeCommand_ok {s : State} {w : Word} {i : Instr} (hb : s.status.busy = false)
    (hi : decodeCommand w = .ok i) : issue w s = exec i s := by
  rw [issue, if_neg (by simp [hb]), hi]

/-- Every word issued has a next state: dropped, ILLEGAL, or run on the idle engine. -/
theorem issue_next (w : Word) (s : State) : ∃ s', issue w s = .next s' := by
  cases hb : s.status.busy with
  | true => exact ⟨s.dropWrite, if_pos hb⟩
  | false =>
    cases hd : decodeCommand w with
    | error e => exact ⟨_, issue_of_decodeCommand_error hb hd⟩
    | ok i =>
      rw [issue_of_decodeCommand_ok hb hd]
      exact exec_next_of_idle hb i

/-- Every Host write that reaches the window has a next state. -/
theorem hostWrite_next (off : Nat) (v : Word) (s : State) : ∃ s', hostWrite off v s = .next s' := by
  unfold hostWrite
  split_ifs
  · exact ⟨s, rfl⟩
  · exact issue_next v s
  · exact ⟨s.windowWrite off v, rfl⟩

/-- Settles O9: an access R189 names is refused (`hostAccess_refused`); any other is a window read, which always
answers, or a window write, which does too (`hostWrite_next`). -/
theorem hostAccessRefusals : Obligations.HostAccessRefusals := by
  intro s a rest hs
  refine ⟨fun h => ?_, fun hw h4 hin => ?_⟩
  · obtain ⟨r, hr⟩ := hostAccess_refused h { s with script := rest }
    exact ⟨r, by rw [step, hs]; exact hr⟩
  · cases a with
    | read off w =>
      obtain rfl : w = 4 := hw
      exact ⟨_, step_read hs h4 hin⟩
    | write off w v =>
      obtain rfl : w = 4 := hw
      rw [step_write hs h4 hin]
      exact hostWrite_next off v _

/-! ### Legal command words -/

/-- What a command word that is not ILLEGAL decodes to, by its opcode (30_encoding.md R86). -/
theorem decodeCommand_of_not_illegalWord {w : Word} (h : ¬illegalWord w) :
    (w.toNat % 16 = 1 ∧ decodeCommand w = .ok .init) ∨
    (w.toNat % 16 = 2 ∧ decodeCommand w = .ok (.writeReg (cmdReg w) (w.toNat / 65536 % 256))) ∨
    (w.toNat % 16 = 3 ∧ decodeCommand w = .ok (.readReg (cmdReg w) (w.toNat / 65536 % 256))) ∨
    (w.toNat % 16 = 4 ∧ decodeCommand w = .ok (.writeConfig (cmdReg w) (cmdArg w))) ∨
    (w.toNat % 16 = 5 ∧ decodeCommand w = .ok (.readPort (cmdReg w) (slotOfArg (cmdArg w)))) ∨
    (w.toNat % 16 = 6 ∧ decodeCommand w = .ok .readBoth) := by
  rw [illegalWord, ← or_assoc, ← cmdRsv_ne_zero_iff] at h
  simp only [not_or, not_and, not_not] at h
  obtain ⟨⟨hrsv1, hrsv0⟩, hop0, hop7, hz, hslot⟩ := h
  have hdec := decode_commandWord (cmdOp w) (cmdReg w) (cmdArg w)
  simp only [commandWord_fields hrsv1 hrsv0, cmdOp_eq_ofNat_iff, Nat.reduceLT, cmdReg_cmdArg_eq_zero_iff,
    cmdArg_aboveSlot_eq_zero_iff, cmdArg_toNat] at hdec
  obtain hop | hop | hop | hop | hop | hop : w.toNat % 16 = 1 ∨ w.toNat % 16 = 2 ∨ w.toNat % 16 = 3 ∨
    w.toNat % 16 = 4 ∨ w.toNat % 16 = 5 ∨ w.toNat % 16 = 6 := by omega
  all_goals simp [hdec, hop, hz, hslot]

theorem decodeCommand_writeReg {w : Word} (h : ¬illegalWord w) (hop : w.toNat % 16 = 2) :
    decodeCommand w = .ok (.writeReg (cmdReg w) (w.toNat / 65536 % 256)) := by
  simpa [hop] using decodeCommand_of_not_illegalWord h

theorem decodeCommand_readReg {w : Word} (h : ¬illegalWord w) (hop : w.toNat % 16 = 3) :
    decodeCommand w = .ok (.readReg (cmdReg w) (w.toNat / 65536 % 256)) := by
  simpa [hop] using decodeCommand_of_not_illegalWord h

/-! ### The checks at a CMD write -/

/-- INIT with INST = 1 sets REINIT (42_facade.md R155). -/
theorem State.markReinit_status (s : State) :
    s.markReinit.status = { s.status with reinit := s.status.reinit || s.status.inst } := by
  by_cases hi : s.status.inst = true
  · rw [State.markReinit, if_pos hi, show (s.status.reinit || s.status.inst) = true by simp [hi]]
    rfl
  · rw [State.markReinit, if_neg hi, show (s.status.reinit || s.status.inst) = s.status.reinit by simp [hi]]

/-- A legal word that neither the SIZE check nor READ_REG of size 0 completes is accepted by the idle engine
(60_exceptions.md R190, last check). -/
theorem issue_accepted {s : State} {w : Word} (hb : s.status.busy = false) (hw : ¬illegalWord w)
    (hsize : ¬((w.toNat % 16 = 2 ∨ w.toNat % 16 = 3) ∧ s.nBuf < w.toNat / 65536 % 256))
    (hzero : ¬(w.toNat % 16 = 3 ∧ w.toNat / 65536 % 256 = 0)) :
    ∃ s', issue w s = .next s' ∧ s'.status = { s.status with
      busy := true
      done := false
      reinit := s.status.reinit || (decide (w.toNat % 16 = 1) && s.status.inst) } := by
  obtain ⟨hop, hi⟩ | ⟨hop, hi⟩ | ⟨hop, hi⟩ | ⟨hop, hi⟩ | ⟨hop, hi⟩ | ⟨hop, hi⟩ :=
    decodeCommand_of_not_illegalWord hw <;> rw [issue_of_decodeCommand_ok hb hi]
  · exact ⟨_, exec_init_of_idle hb, by simp [State.markReinit_status, Status.accepted, hop]⟩
  · rw [exec_writeReg_of_idle hb, if_neg fun hn => hsize ⟨.inl hop, hn⟩]
    exact ⟨_, rfl, by simp [Status.accepted, hop]⟩
  · rw [exec_readReg_of_idle hb, if_neg fun hn => hsize ⟨.inr hop, hn⟩, if_neg fun h0 => hzero ⟨hop, h0⟩]
    exact ⟨_, rfl, by simp [Status.accepted, hop]⟩
  · exact ⟨_, exec_writeConfig_of_idle hb _ _, by simp [Status.accepted, hop]⟩
  · exact ⟨_, exec_readPort_of_idle hb _ _, by simp [Status.accepted, hop]⟩
  · exact ⟨_, exec_readBoth_of_idle hb, by simp [Status.accepted, hop]⟩

/-- Settles O28: a CMD write is no refused access (`hostAccessRefusals`); each check's outcome is what its own statement
says of the step. -/
theorem checkOrderAtCommandWrite : Obligations.CheckOrderAtCommandWrite := by
  intro s w rest hs hr
  obtain ⟨s', h⟩ := (hostAccessRefusals s _ rest hs).2 rfl rfl (show 0 < 0x400 by decide)
  have next_eq {t : State} (ht : step s = .next t) : s' = t := Host.Outcome.next.inj (h.symm.trans ht)
  refine ⟨s', h, fun hb => ?_, fun hb hw => ?_, fun hb hw hop hn => ?_, fun hb hw hop hz => ?_,
    fun hb hw hsize hzero => ?_⟩
  · exact next_eq (overrunDropsTheWrite s 0x000 w rest hs hr hb (by decide) (.inl rfl))
  · rw [next_eq (illegalCommandWord s w rest hs hr hb hw)]
  · obtain ⟨hwrite, hread⟩ := sizeErrorCompletes { s with script := rest } (cmdReg w) _ hb hn
    obtain hop | hop := hop
    · rw [next_eq ((step_commandWrite_of_idle hs hr hb (decodeCommand_writeReg hw hop)).trans hwrite)]
    · rw [next_eq ((step_commandWrite_of_idle hs hr hb (decodeCommand_readReg hw hop)).trans (hread.trans hwrite))]
  · have hexec := step_commandWrite_of_idle hs hr hb (decodeCommand_readReg hw hop)
    rw [hz] at hexec
    rw [next_eq (hexec.trans (readRegOfSizeZero { s with script := rest } (cmdReg w) hb))]
  · obtain ⟨t, hissue, hstatus⟩ := issue_accepted (s := { s with script := rest }) hb hw hsize hzero
    rw [next_eq ((step_commandWrite hs hr).trans hissue), hstatus]

end Sys2Proof.Machine

/-! Proofs about reset (70_reset_and_hazards.md section 1): what an idle engine does with a command, what the engine's
registers and buffers hold after reset, and the statement settled from it. -/

namespace Sys2Proof.Machine

/-- An idle engine takes every command: it accepts it or completes it at once (41_transport.md R125, R133, R183). -/
theorem exec_command_of_idle {s : State} {w : Word} {i : Instr} (hb : s.status.busy = false)
    (hi : decodeCommand w = .ok i) :
    ∃ s', exec i s = .next s' ∧ (s'.status.busy = true ∨ s'.status.done = true) := by
  obtain ⟨hstart, hstop, hwr, hack, hnack⟩ := decodeCommand_not_prim hi
  cases i with
  | init => exact ⟨_, exec_init_of_idle hb, .inl rfl⟩
  | writeReg reg n =>
    refine ⟨_, exec_writeReg_of_idle hb reg n, ?_⟩
    split
    · exact .inr rfl
    · exact .inl rfl
  | readReg reg n =>
    refine ⟨_, exec_readReg_of_idle hb reg n, ?_⟩
    split_ifs
    · exact .inr rfl
    · exact .inr rfl
    · exact .inl rfl
  | writeConfig reg v => exact ⟨_, exec_writeConfig_of_idle hb reg v, .inl rfl⟩
  | readPort reg slot => exact ⟨_, exec_readPort_of_idle hb reg slot, .inl rfl⟩
  | readBoth => exact ⟨_, exec_readBoth_of_idle hb, .inl rfl⟩
  | start => exact absurd rfl hstart
  | stop => exact absurd rfl hstop
  | wr data => exact absurd rfl (hwr data)
  | rdAck => exact absurd rfl hack
  | rdNack => exact absurd rfl hnack

/-- Every TXBUF byte is 0 after reset, one that exists as an unlisted byte of the memory (R211, 20_memory.md R57). -/
@[simp] theorem State.resetWith_txByte (n i : Nat) : (State.resetWith n).txByte i = 0#8 := ite_self _

/-- Every RXBUF byte is 0 after reset, one that exists as an unlisted byte of the memory (R211, 20_memory.md R57). -/
@[simp] theorem State.resetWith_rxByte (n i : Nat) : (State.resetWith n).rxByte i = 0#8 := ite_self _

/-- Settles O54: STATUS, DEVICE and the caches as their own statements say of reset, the buffers byte by byte, the other
fields by their initial value; the engine is idle, so it takes any command (`exec_command_of_idle`). -/
theorem resetValues : Obligations.ResetValues := by
  intro n
  obtain ⟨-, hstatus, -⟩ := statusRegister
  obtain ⟨hdevice, -⟩ := deviceRegister
  obtain ⟨-, -, hcache⟩ := portValueCache
  obtain ⟨hcacheA, hcacheB⟩ := hcache n
  have hdiag : Diag.word ⟨0#4, 0#8, 0#8⟩ = 0#32 := by decide
  have hreset : ∃ m, 1 ≤ m ∧ m ≤ 255 ∧ State.reset = State.resetWith m := ⟨255, by decide, by decide, rfl⟩
  exact ⟨hstatus n, hdevice n, rfl, rfl, hdiag, fun i => ⟨State.resetWith_txByte n i, State.resetWith_rxByte n i⟩,
    hcacheA, hcacheB, rfl, rfl, rfl, rfl, rfl, hreset, fun _ _ => exec_command_of_idle rfl⟩

end Sys2Proof.Machine

/-! Proofs about the encoding (30_encoding.md): decoding and encoding are inverse to each other, the meaning of every
command word and of every primitive word by its number, and the address bytes. -/

namespace Sys2Proof.Machine

/-! ### Decoding inverts encoding -/

/-- A SIZE that fits its field is read back from it (30_encoding.md R78). -/
theorem toNat_ofNat_of_sizeFits {n : Nat} (h : sizeFits n = true) : (BitVec.ofNat 8 n).toNat = n := by
  rw [BitVec.toNat_ofNat]
  exact Nat.mod_eq_of_lt (of_decide_eq_true h)

/-- ARG of a slot sets none of the bits that must be zero (30_encoding.md R83). -/
theorem slotArg_aboveSlot (slot : Slot) : (slotArg slot).extractLsb' 1 7 = 0#7 := by
  cases slot <;> decide

/-- A WR word reads as WR of its byte (30_encoding.md R89). -/
theorem decodePrim_wrWord (b : Byte) : decodePrim (wrWord b) = .ok (.wr b) := by
  have hstart : wrWord b ≠ startWord := by
    revert b
    decide
  have hstop : wrWord b ≠ stopWord := by
    revert b
    decide
  rw [decodePrim, primData_wrWord, if_neg hstart, if_neg hstop, if_pos rfl]

/-- Settles O1: a command word by `decode_commandWord`, whose opcode chooses the branch; a WR word by
`decodePrim_wrWord`; the other four primitives are one word each. -/
theorem decodeInvertsEncode : Obligations.DecodeInvertsEncode := by
  intro i hi
  cases i with
  | init => exact decode_commandWord 1#4 0#8 0#8
  | writeReg reg n =>
    have hword := decode_commandWord 2#4 reg (BitVec.ofNat 8 n)
    rw [toNat_ofNat_of_sizeFits hi] at hword
    exact hword
  | readReg reg n =>
    have hword := decode_commandWord 3#4 reg (BitVec.ofNat 8 n)
    rw [toNat_ofNat_of_sizeFits hi] at hword
    exact hword
  | writeConfig reg v => exact decode_commandWord 4#4 reg v
  | readPort reg slot =>
    have hword := decode_commandWord 5#4 reg (slotArg slot)
    rw [slotOfArg_slotArg, if_pos (slotArg_aboveSlot slot)] at hword
    exact hword
  | readBoth => exact decode_commandWord 6#4 0#8 0#8
  | wr b => exact decodePrim_wrWord b
  | start | stop | rdAck | rdNack => rfl

/-! ### Encoding inverts decoding -/

/-- An ARG is a SIZE that fits its field, and is the ARG of that SIZE (30_encoding.md R78). -/
theorem sizeFits_toNat (arg : Byte) : sizeFits arg.toNat = true :=
  decide_eq_true arg.isLt

/-- The word of the decoded command is that of the word's own fields. -/
theorem encode_of_decode_commandWord {op : BitVec 4} {reg arg : Byte} {i : Instr}
    (h : decodeCommand (commandWord op reg arg) = .ok i) :
    i.wellFormed = true ∧ encode i = .command (commandWord op reg arg) := by
  rw [decode_commandWord] at h
  split_ifs at h with hinit hzero hwrite hread hconfig hport hslot hboth hzero
  · obtain ⟨rfl, rfl⟩ := hzero
    cases h
    exact ⟨rfl, by rw [encode, hinit]⟩
  · cases h
    exact ⟨sizeFits_toNat arg, by rw [encode, hwrite, BitVec.ofNat_toNat, BitVec.setWidth_eq]⟩
  · cases h
    exact ⟨sizeFits_toNat arg, by rw [encode, hread, BitVec.ofNat_toNat, BitVec.setWidth_eq]⟩
  · cases h
    exact ⟨rfl, by rw [encode, hconfig]⟩
  · cases h
    exact ⟨rfl, by rw [encode, hport, slotArg_slotOfArg hslot]⟩
  · obtain ⟨rfl, rfl⟩ := hzero
    cases h
    exact ⟨rfl, by rw [encode, hboth]⟩

/-- A word that decodes is the command word of its own fields, since its reserved fields are 0 (30_encoding.md R79). -/
theorem commandWord_fields_of_decodes {w : Word} {i : Instr} (h : decodeCommand w = .ok i) :
    commandWord (cmdOp w) (cmdReg w) (cmdArg w) = w := by
  have hrsv : ¬(cmdRsv1 w ≠ 0#8 ∨ cmdRsv0 w ≠ 0#4) := fun hrsv => by
    rw [decodeCommand, if_pos hrsv] at h
    cases h
  simp only [ne_eq, not_or, not_not] at hrsv
  exact commandWord_fields hrsv.1 hrsv.2

/-- The primitive an accepted word means is the one it is the word of (30_encoding.md R89). -/
theorem encode_of_decodePrim {p : PrimWord} {i : Instr} (h : decodePrim p = .ok i) :
    i.wellFormed = true ∧ encode i = .primitive p := by
  unfold decodePrim at h
  split_ifs at h with hstart hstop hwr hack hnack
  · cases h
    exact ⟨rfl, by rw [encode, hstart]⟩
  · cases h
    exact ⟨rfl, by rw [encode, hstop]⟩
  · cases h
    exact ⟨rfl, by rw [encode, ← hwr]⟩
  · cases h
    exact ⟨rfl, by rw [encode, hack]⟩
  · cases h
    exact ⟨rfl, by rw [encode, hnack]⟩

/-- Settles O2: a command word is the word of its own fields (`commandWord_fields_of_decodes`), and each branch of the
decoder keeps them; a primitive word by `encode_of_decodePrim`. -/
theorem encodeInvertsDecode : Obligations.EncodeInvertsDecode := by
  intro w i h
  cases w with
  | command w =>
    have hfields := commandWord_fields_of_decodes h
    rw [← hfields]
    exact encode_of_decode_commandWord (hfields.symm ▸ h)
  | primitive p => exact encode_of_decodePrim h

/-! ### Words by their numbers -/

/-- REG as the number's bits 15:8, cut to a byte (30_encoding.md R75). -/
theorem cmdReg_eq_ofNat (w : Word) : cmdReg w = BitVec.ofNat 8 (w.toNat / 256) := by
  apply BitVec.eq_of_toNat_eq
  rw [cmdReg_toNat, BitVec.toNat_ofNat]

/-- ARG as the number's bits 23:16, cut to a byte (30_encoding.md R75). -/
theorem cmdArg_eq_ofNat (w : Word) : cmdArg w = BitVec.ofNat 8 (w.toNat / 65536) := by
  apply BitVec.eq_of_toNat_eq
  rw [cmdArg_toNat, BitVec.toNat_ofNat]

/-- SLOT is the number's bit 16 (30_encoding.md R78). -/
theorem slotOfArg_cmdArg (w : Word) :
    slotOfArg (cmdArg w) = if w.toNat / 65536 % 2 = 1 then .portB else .portA := by
  have hbit : (cmdArg w).getLsbD 0 = decide (w.toNat / 65536 % 2 = 1) := by
    rw [BitVec.getLsbD, Nat.testBit_zero, cmdArg_toNat, Nat.mod_mod_of_dvd _ (by decide : 2 ∣ 256)]
  rw [slotOfArg, hbit]
  simp only [decide_eq_true_eq]

/-- Settles O3: an ILLEGAL word by `decodeCommand_error_of_illegalWord`; the six clauses of any other are those of
`decodeCommand_of_not_illegalWord`, of which its opcode leaves one. -/
theorem commandWordMeaning : Obligations.CommandWordMeaning := by
  intro w
  refine ⟨decodeCommand_error_of_illegalWord, fun hw => ?_⟩
  have hdec := decodeCommand_of_not_illegalWord hw
  rw [cmdReg_eq_ofNat, slotOfArg_cmdArg, cmdArg_eq_ofNat] at hdec
  refine ⟨fun hop => ?_, fun hop => ?_, fun hop => ?_, fun hop => ?_, fun hop => ?_, fun hop => ?_⟩ <;>
    simpa [hop] using hdec

/-- The WR words are those with 0x31 in bits 15:8 (30_encoding.md R89). -/
theorem eq_wrWord_primData_iff (p : PrimWord) : p = wrWord (primData p) ↔ p.toNat / 256 = 0x31 := by
  have hp := p.isLt
  simp only [← BitVec.toNat_inj, wrWord, primData, toNat_append_eq, BitVec.extractLsb'_toNat, Nat.shiftRight_zero,
    BitVec.toNat_ofNat]
  omega

/-- DATA is the number's low byte (30_encoding.md R88). -/
theorem primData_eq_ofNat (p : PrimWord) : primData p = BitVec.ofNat 8 p.toNat := by
  apply BitVec.eq_of_toNat_eq
  rw [primData, BitVec.extractLsb'_toNat, Nat.shiftRight_zero, BitVec.toNat_ofNat]

/-- The decoder of primitive words with its five tests said on the word's number. -/
theorem decodePrim_eq (p : PrimWord) :
    decodePrim p =
      if p.toNat = 0x1000 then .ok .start
      else if p.toNat = 0x2000 then .ok .stop
      else if p.toNat / 256 = 0x31 then .ok (.wr (BitVec.ofNat 8 p.toNat))
      else if p.toNat = 0x4000 then .ok .rdAck
      else if p.toNat = 0x4100 then .ok .rdNack
      else .error .reservedPrimitive := by
  simp only [decodePrim, eq_wrWord_primData_iff, ← primData_eq_ofNat]
  simp only [← BitVec.toNat_inj, startWord, stopWord, rdAckWord, rdNackWord, BitVec.toNat_ofNat, Nat.reducePow,
    Nat.reduceMod]

/-- Settles O4: each number passes exactly its own test of `decodePrim_eq`. -/
theorem primitiveWordForms : Obligations.PrimitiveWordForms := by
  intro p
  rw [decodePrim_eq]
  refine ⟨fun h => ?_, fun h => ?_, fun h => ?_, fun h => ?_, fun h => ?_, fun h1 h2 h3 h4 h5 => ?_⟩
  · rw [if_pos h]
  · rw [if_neg (by omega), if_pos h]
  · rw [if_neg (by omega), if_neg (by omega), if_pos h]
  · rw [if_neg (by omega), if_neg (by omega), if_neg (by omega), if_pos h]
  · rw [if_neg (by omega), if_neg (by omega), if_neg (by omega), if_neg (by omega), if_pos h]
  · rw [if_neg h1, if_neg h2, if_neg h3, if_neg h4, if_neg h5]

/-- Settles O5: the words are read out by evaluating the decoder on each. -/
theorem sampleWordsDecode : Obligations.SampleWordsDecode := by
  unfold Obligations.SampleWordsDecode
  decide

/-- Settles O6: a 7-bit address doubled fits the byte, and leaves bit 0 for the direction. -/
theorem addressBytes : Obligations.AddressBytes := by
  unfold Obligations.AddressBytes
  decide

end Sys2Proof.Machine

/-! Proofs about the invariant (Safety.lean): it holds at reset, every operation and every step keeps it, and no step
from a state of it stops with a fault. -/

namespace Sys2Proof.Machine

/-! ### What the invariant says of the latch -/

/-- A latched command that fits, with the sub-step and the SIZE it has (10_state.md R43). -/
theorem Latch.fits_cases {nBuf : Nat} {l : Latch} (h : l.fits nBuf = true) :
    (decodeCommand l.word = .ok .init ∧ (l.step = .cfg ∨ l.step = .inst)) ∨
    (decodeCommand l.word = .ok .readBoth ∧ (l.step = .a ∨ l.step = .b)) ∨
    (l.step = .xfer ∧
      ((∃ reg n, decodeCommand l.word = .ok (.writeReg reg n) ∧ n ≤ nBuf) ∨
       (∃ reg n, decodeCommand l.word = .ok (.readReg reg n) ∧ 1 ≤ n ∧ n ≤ nBuf) ∨
       (∃ reg v, decodeCommand l.word = .ok (.writeConfig reg v)) ∨
       (∃ reg slot, decodeCommand l.word = .ok (.readPort reg slot)))) := by
  cases hd : decodeCommand l.word with
  | error e => simp [Latch.fits, hd] at h
  | ok i =>
    simp only [Latch.fits, hd] at h
    cases i with
    | init => exact .inl ⟨rfl, of_decide_eq_true h⟩
    | readBoth => exact .inr (.inl ⟨rfl, of_decide_eq_true h⟩)
    | writeReg reg n =>
      obtain ⟨hx, hn⟩ := of_decide_eq_true h
      exact .inr (.inr ⟨hx, .inl ⟨reg, n, rfl, hn⟩⟩)
    | readReg reg n =>
      obtain ⟨hx, h1, hn⟩ := of_decide_eq_true h
      exact .inr (.inr ⟨hx, .inr (.inl ⟨reg, n, rfl, h1, hn⟩)⟩)
    | writeConfig reg v => exact .inr (.inr ⟨of_decide_eq_true h, .inr (.inr (.inl ⟨reg, v, rfl⟩))⟩)
    | readPort reg slot => exact .inr (.inr ⟨of_decide_eq_true h, .inr (.inr (.inr ⟨reg, slot, rfl⟩))⟩)
    | start | stop | wr data | rdAck | rdNack => cases h

/-- Only INIT's opcode decodes to INIT (30_encoding.md R84). -/
theorem Latch.op_of_init {l : Latch} (h : decodeCommand l.word = .ok .init) : l.op = 1#4 := by
  obtain ⟨-, hword⟩ := encode_of_decode_commandWord h
  have hop := congrArg cmdOp (CodeWord.command.inj hword)
  simpa using hop.symm

/-- While reset is asserted nothing is latched (70_reset_and_hazards.md R210). -/
theorem State.Inv.latch_none_of_inReset {s : State} (h : s.Inv) (hr : s.inReset = true) : s.latch = none := by
  rw [h.held_in_reset hr, State.assertReset_latch]

/-- A busy engine of the invariant has a latched command that fits. -/
theorem State.Inv.latched_of_busy {s : State} (h : s.Inv) (hb : s.status.busy = true) :
    ∃ l, s.latch = some l ∧ l.fits s.nBuf = true := by
  rw [h.busy_latch] at hb
  obtain ⟨l, hl⟩ := Option.isSome_iff_exists.mp hb
  exact ⟨l, hl, h.latch_fits l hl⟩

/-- An idle engine of the invariant is not stuck. -/
theorem State.Inv.not_stuck_of_idle {s : State} (h : s.Inv) (hb : s.status.busy = false) : s.stuck = false := by
  by_contra hst
  obtain ⟨l, hl, -⟩ := h.stuck_init (by simpa using hst)
  rw [h.busy_latch, hl] at hb
  cases hb

/-! ### What is outside the engine -/

/-- The events, the Host's values and the Bus Controller's side are free in the invariant. -/
theorem State.Inv.outside {s : State} (h : s.Inv) (b : Bus) (d : Nat) (script : List Event)
    (reads : List HostRead) : State.Inv { s with bus := b, draws := d, script := script, reads := reads } :=
  { h with
    held_in_reset := fun hr => by
      rw [State.assertReset_eq (State.submitPending_eq_false fun l hl => by
        rw [h.latch_none_of_inReset hr] at hl
        cases hl)]
      conv_lhs => rw [h.held_in_reset hr]
      rfl }

/-- The next event taken. -/
theorem State.Inv.withScript {s : State} (h : s.Inv) (script : List Event) : State.Inv { s with script := script } :=
  h.outside s.bus s.draws script s.reads

/-- A Host read (20_memory.md R54). -/
theorem State.Inv.hostRead {s : State} (h : s.Inv) (off : Nat) : (s.hostRead off).Inv :=
  h.outside s.bus _ s.script _

/-- A primitive on the bus. -/
theorem State.Inv.onBus {s : State} (h : s.Inv) (f : Nat → Transfer → Bus → Bus) : (s.onBus f).Inv := by
  obtain ⟨b, d, hframe⟩ := onBus_frame f s
  rw [hframe]
  exact h.outside b d s.script s.reads

/-- Asserting reset (70_reset_and_hazards.md R211). -/
theorem State.Inv.assertReset {s : State} (h : s.Inv) : s.assertReset.Inv where
  nBuf_range := h.nBuf_range
  mem_wf := rfl
  mem_inBuffers := fun _ hc => nomatch hc
  busy_latch := rfl
  latch_fits := fun _ hl => nomatch hl
  sess_none := ⟨rfl, rfl⟩
  err_fail := fun he => absurd rfl he
  code_fail := fun hc => absurd rfl hc
  stuck_init := fun hst => nomatch hst
  reinit_fault := fun hre => nomatch hre
  record_kept := List.nil_suffix
  faults_only := h.faults_only
  held_in_reset := fun _ => (State.assertReset_eq (s := s.assertReset) rfl).symm

/-- Releasing reset (70_reset_and_hazards.md R210). -/
theorem State.Inv.releaseReset {s : State} (h : s.Inv) : State.Inv { s with inReset := false } :=
  { h with held_in_reset := fun hr => nomatch hr }

/-- Settles O56: the reset state has nothing stored, nothing latched and no fault. -/
theorem invariantAtReset : Obligations.InvariantAtReset := fun _ h1 h255 =>
  { nBuf_range := ⟨h1, h255⟩
    mem_wf := rfl
    mem_inBuffers := fun _ hc => nomatch hc
    busy_latch := rfl
    latch_fits := fun _ hl => nomatch hl
    sess_none := ⟨rfl, rfl⟩
    err_fail := fun he => absurd rfl he
    code_fail := fun hc => absurd rfl hc
    stuck_init := fun hst => nomatch hst
    reinit_fault := fun hre => nomatch hre
    record_kept := List.nil_suffix
    faults_only := fun _ hf => nomatch hf
    held_in_reset := fun hr => nomatch hr }

/-! ## The invariant out of reset
What a command does it does out of reset, where nothing is held at its reset value. -/

/-- The invariant, with reset not asserted. -/
structure State.Live (s : State) : Prop extends s.Inv where
  out : s.inReset = false

theorem State.held_of_out {s : State} (h : s.inReset = false) : s.inReset = true → s = s.assertReset := fun hr => by
  rw [h] at hr
  cases hr

/-- A busy engine is out of reset. -/
theorem State.Inv.live_of_busy {s : State} (h : s.Inv) (hb : s.status.busy = true) : s.Live where
  toInv := h
  out := by
    by_contra hr
    rw [h.busy_latch, h.latch_none_of_inReset (by simpa using hr)] at hb
    cases hb

/-! ### Completion and acceptance -/

theorem State.Live.complete {s : State} (h : s.Live) (hst : s.stuck = false) (c : Word) (e : EngineError) :
    (s.complete c e).Live :=
  { h with
    busy_latch := rfl
    latch_fits := fun _ hl => nomatch hl
    err_fail := fun he => by
      have he : e ≠ .none := he
      simp [State.complete, Status.completed, he]
    code_fail := fun hc => by
      obtain rfl : e = .none := by_contra fun he => hc (if_neg he)
      rw [State.complete_none] at hc ⊢
      exact ⟨decide_eq_true hc, rfl⟩
    stuck_init := fun hs => by
      rw [State.complete_stuck, hst] at hs
      cases hs
    held_in_reset := State.held_of_out h.out }

theorem State.Live.writeDiag {s : State} (h : s.Live) (op : BitVec 4) (reg v : Byte) : (s.writeDiag op reg v).Live :=
  { h with held_in_reset := State.held_of_out h.out }

theorem State.Live.completeFacade {s : State} (h : s.Live) (hst : s.stuck = false) (c : Word) (op : BitVec 4)
    (reg v : Byte) : (s.completeFacade c op reg v).Live := by
  unfold State.completeFacade
  split
  · exact (h.writeDiag op reg v).complete hst c .none
  · exact h.complete hst 0#32 .none

/-- Acceptance by an idle engine of a command that fits at this sub-step (41_transport.md R125). -/
theorem State.Live.accept {s : State} (h : s.Live) (hst : s.stuck = false) {op : BitVec 4} {reg arg : Byte}
    {step : SubStep} (hfits : ∀ d, Latch.fits s.nBuf ⟨op, reg, arg, d, step⟩ = true) :
    (s.accept op reg arg step).Live :=
  { h with
    busy_latch := rfl
    latch_fits := fun l hl => by
      cases hl
      exact hfits s.device
    stuck_init := fun hs => by
      rw [State.accept_stuck, hst] at hs
      cases hs
    held_in_reset := State.held_of_out h.out }

/-- INIT accepted with INST = 1 records its fault in both lists (42_facade.md R155). -/
theorem State.Live.markReinit {s : State} (h : s.Live) : s.markReinit.Live := by
  unfold State.markReinit
  split
  · exact { h with
      reinit_fault := fun _ => by simp
      record_kept := State.recordFault_kept _ h.record_kept
      faults_only := fun f hf => by
        obtain hf | hf := List.mem_append.mp hf
        · exact h.faults_only f hf
        · exact List.mem_singleton.mp hf
      held_in_reset := State.held_of_out h.out }
  · exact h

/-! ### Requests and what they leave -/

theorem State.Live.transacted {s : State} (h : s.Live) (chan : Byte) (body : List PrimWord) (t : Transfer) :
    (s.transacted chan body t).Live := by
  obtain ⟨b, d, hframe⟩ := transacted_frame chan body t s
  rw [hframe]
  exact { h with sess_none := ⟨rfl, rfl⟩, held_in_reset := State.held_of_out h.out }

theorem State.Live.asked {s : State} (h : s.Live) (req : Request) (rep : Reply) :
    ((s.takeReply 1).record req rep).Live :=
  { h with held_in_reset := State.held_of_out h.out }

/-- Another memory, canonical and within the buffers. -/
theorem State.Live.withMem {s : State} (h : s.Live) {m : Memory} (hwf : Memory.wf m = true)
    (hin : ∀ c ∈ m, inBuffers s.nBuf c.1) (d : Nat) : State.Live { s with mem := m, draws := d } :=
  { h with mem_wf := hwf, mem_inBuffers := hin, held_in_reset := State.held_of_out h.out }

/-- A read of at most N_BUF bytes writes only RXBUF bytes that exist (41_transport.md R136, R137). -/
theorem State.Live.landRead {s : State} (h : s.Live) {n : Nat} (hn : n ≤ s.nBuf) (t : Transfer) :
    (s.landRead n t).Live := by
  obtain ⟨bytes, d, hland, hlen, -⟩ := State.landRead_eq n t s
  rw [hland]
  refine h.withMem (wf_writeBytes h.mem_wf rxBase bytes) (fun c hc => ?_) d
  obtain ⟨hlo, hhi⟩ | hc := mem_of_mem_writeBytes hc
  · exact .inr ⟨hlo, by omega⟩
  · exact h.mem_inBuffers c hc

theorem State.Live.setCache {s : State} (h : s.Live) (slot : Slot) (v : Byte) : (s.setCache slot v).Live := by
  cases slot <;> exact { h with held_in_reset := State.held_of_out h.out }

theorem State.Live.landPort {s : State} (h : s.Live) (slot : Slot) (t : Transfer) : (s.landPort slot t).Live := by
  have hland := h.landRead h.nBuf_range.1 t
  unfold State.landPort
  split
  · exact hland.setCache slot _
  · exact hland

theorem State.Live.withResult {s : State} (h : s.Live) (r : BitVec 16) : State.Live { s with result16 := r } :=
  { h with held_in_reset := State.held_of_out h.out }

theorem State.Live.spoilResult {s : State} (h : s.Live) : s.spoilResult.Live :=
  { h with held_in_reset := State.held_of_out h.out }

/-- The next sub-step of the latched command, if it is one of that command's. -/
theorem State.Live.toSubStep {s : State} (h : s.Live) {l : Latch} (hl : s.latch = some l) {step : SubStep}
    (hfits : Latch.fits s.nBuf { l with step := step } = true) : (s.toSubStep l step).Live :=
  { h with
    busy_latch := h.busy_latch.trans (by rw [hl]; rfl)
    latch_fits := fun l' hl' => by
      cases hl'
      exact hfits
    stuck_init := fun hs => by
      obtain ⟨l', hl', hop⟩ := h.stuck_init hs
      obtain rfl : l = l' := Option.some.inj (hl.symm.trans hl')
      exact ⟨_, rfl, hop⟩
    held_in_reset := State.held_of_out h.out }

/-- A request of INIT that is never answered (40_session.md R122). -/
theorem State.Live.becomeStuck {s : State} (h : s.Live) {l : Latch} (hl : s.latch = some l) (hop : l.op = 1#4) :
    State.Live { s with stuck := true } :=
  { h with stuck_init := fun _ => ⟨l, hl, hop⟩, held_in_reset := State.held_of_out h.out }

theorem State.Live.withInst {s : State} (h : s.Live) :
    State.Live { s with status := { s.status with inst := true } } :=
  { h with held_in_reset := State.held_of_out h.out }

/-! ### The Host's writes -/

/-- A dropped write sets OVR, of which the invariant says nothing (60_exceptions.md R186). -/
theorem State.Live.dropWrite {s : State} (h : s.Live) : s.dropWrite.Live :=
  { h with held_in_reset := State.held_of_out h.out }

/-- A Host write to TXBUF writes only a byte that exists (20_memory.md R57). -/
theorem State.Live.setTx {s : State} (h : s.Live) (i : Nat) (v : Byte) : (s.setTx i v).Live := by
  unfold State.setTx
  split
  · rename_i hi
    refine h.withMem (wf_write h.mem_wf _ v) (fun c hc => ?_) s.draws
    obtain hc | hc := mem_of_mem_write hc
    · exact .inl ⟨by omega, by omega⟩
    · exact h.mem_inBuffers c hc
  · exact h

theorem State.Live.windowWrite {s : State} (h : s.Live) (off : Nat) (v : Word) : (s.windowWrite off v).Live := by
  unfold State.windowWrite
  split_ifs
  · exact { h with
      reinit_fault := fun hre => h.reinit_fault (Bool.and_elim_left hre)
      held_in_reset := State.held_of_out h.out }
  · exact h.dropWrite
  · exact { h with held_in_reset := State.held_of_out h.out }
  · exact h.dropWrite
  · exact (((h.setTx _ _).setTx _ _).setTx _ _).setTx _ _
  · exact h

/-! ### Commands -/

/-- The latches that acceptance fills fit their commands. -/
theorem Latch.fits_init (nBuf : Nat) (d : Device) : Latch.fits nBuf ⟨1#4, 0#8, 0#8, d, .cfg⟩ = true := by
  rw [Latch.fits, decodeCommand_initLatch]
  rfl

theorem Latch.fits_readBoth (nBuf : Nat) (d : Device) : Latch.fits nBuf ⟨6#4, 0#8, 0#8, d, .a⟩ = true := by
  rw [Latch.fits, decodeCommand_readBothLatch]
  rfl

theorem Latch.fits_writeReg {nBuf n : Nat} (h255 : nBuf ≤ 255) (hn : n ≤ nBuf) (reg : Byte) (d : Device) :
    Latch.fits nBuf ⟨2#4, reg, BitVec.ofNat 8 n, d, .xfer⟩ = true := by
  have hmod : n % 256 = n := Nat.mod_eq_of_lt (by omega)
  simp [Latch.fits, Latch.word, decode_commandWord, hmod, hn]

theorem Latch.fits_readReg {nBuf n : Nat} (h255 : nBuf ≤ 255) (h1 : 1 ≤ n) (hn : n ≤ nBuf) (reg : Byte)
    (d : Device) : Latch.fits nBuf ⟨3#4, reg, BitVec.ofNat 8 n, d, .xfer⟩ = true := by
  have hmod : n % 256 = n := Nat.mod_eq_of_lt (by omega)
  simp [Latch.fits, Latch.word, decode_commandWord, hmod, h1, hn]

theorem Latch.fits_writeConfig (nBuf : Nat) (reg v : Byte) (d : Device) :
    Latch.fits nBuf ⟨4#4, reg, v, d, .xfer⟩ = true := by
  simp [Latch.fits, Latch.word, decode_commandWord]

theorem Latch.fits_readPort (nBuf : Nat) (reg : Byte) (slot : Slot) (d : Device) :
    Latch.fits nBuf ⟨5#4, reg, slotArg slot, d, .xfer⟩ = true := by
  simp [Latch.fits, Latch.word, decode_commandWord, slotArg_aboveSlot]

/-- An idle engine keeps the invariant by whatever instruction it is given. -/
theorem State.Live.exec_idle {s s' : State} {i : Instr} (h : s.Live) (hb : s.status.busy = false)
    (hexec : exec i s = .next s') : s'.Live := by
  have hst := h.not_stuck_of_idle hb
  obtain ⟨-, h255⟩ := h.nBuf_range
  cases i with
  | init =>
    rw [exec_init_of_idle hb] at hexec
    cases hexec
    exact h.markReinit.accept (by simpa using hst) (Latch.fits_init _)
  | writeReg reg n =>
    rw [exec_writeReg_of_idle hb] at hexec
    cases hexec
    split_ifs with hn
    · exact h.complete hst _ _
    · exact h.accept hst (Latch.fits_writeReg h255 (not_lt.mp hn) reg)
  | readReg reg n =>
    rw [exec_readReg_of_idle hb] at hexec
    cases hexec
    split_ifs with hn h0
    · exact h.complete hst _ _
    · exact h.complete hst _ _
    · exact h.accept hst (Latch.fits_readReg h255 (Nat.pos_of_ne_zero h0) (not_lt.mp hn) reg)
  | writeConfig reg v =>
    rw [exec_writeConfig_of_idle hb] at hexec
    cases hexec
    exact h.accept hst (Latch.fits_writeConfig _ reg v)
  | readPort reg slot =>
    rw [exec_readPort_of_idle hb] at hexec
    cases hexec
    exact h.accept hst (Latch.fits_readPort _ reg slot)
  | readBoth =>
    rw [exec_readBoth_of_idle hb] at hexec
    cases hexec
    exact h.accept hst (Latch.fits_readBoth _)
  | start | stop | wr data | rdAck | rdNack =>
    cases hexec
    exact ⟨h.toInv.onBus _, (State.onBus_inReset s _).trans h.out⟩

/-- INIT latched at another of its sub-steps still fits. -/
theorem Latch.fits_of_init {nBuf : Nat} {l : Latch} (h : decodeCommand l.word = .ok .init) :
    Latch.fits nBuf { l with step := .inst } = true := by
  have hword : decodeCommand (Latch.word { l with step := .inst }) = .ok .init := h
  rw [Latch.fits, hword]
  rfl

theorem Latch.fits_of_readBoth {nBuf : Nat} {l : Latch} (h : decodeCommand l.word = .ok .readBoth) :
    Latch.fits nBuf { l with step := .b } = true := by
  have hword : decodeCommand (Latch.word { l with step := .b }) = .ok .readBoth := h
  rw [Latch.fits, hword]
  rfl

/-- The answer of INIT's configure request keeps the invariant, whatever it is. -/
theorem State.Live.initAfterConfig {s : State} (h : s.Live) (hst : s.stuck = false) {l : Latch}
    (hl : s.latch = some l) (hi : decodeCommand l.word = .ok .init) (c : Option Word) :
    (initAfterConfig l c s).Live := by
  unfold Machine.initAfterConfig
  split
  · exact h.becomeStuck hl (Latch.op_of_init hi)
  · split
    · exact h.completeFacade hst _ _ _ _
    · exact h.toSubStep hl (Latch.fits_of_init hi)

/-- The answer of INIT's install request keeps the invariant, whatever it is. -/
theorem State.Live.initAfterInstall {s : State} (h : s.Live) (hst : s.stuck = false) {l : Latch}
    (hl : s.latch = some l) (hi : decodeCommand l.word = .ok .init) (c : Option Word) :
    (initAfterInstall c s).Live := by
  unfold Machine.initAfterInstall
  split
  · exact h.becomeStuck hl (Latch.op_of_init hi)
  · split
    · exact h.completeFacade hst _ _ _ _
    · exact h.withInst.complete hst _ _

theorem State.Live.readBothAfterA {s : State} (h : s.Live) (hst : s.stuck = false) {l : Latch}
    (hl : s.latch = some l) (hi : decodeCommand l.word = .ok .readBoth) (t : Transfer) :
    (readBothAfterA l t s).Live := by
  unfold Machine.readBothAfterA
  split
  · exact h.spoilResult.completeFacade hst _ _ _ _
  · exact h.toSubStep hl (Latch.fits_of_readBoth hi)

theorem State.Live.readBothAfterB {s : State} (h : s.Live) (hst : s.stuck = false) (t : Transfer) :
    (readBothAfterB t s).Live := by
  unfold Machine.readBothAfterB
  split
  · exact h.spoilResult.completeFacade hst _ _ _ _
  · exact (h.withResult (combinePorts s.cacheA s.cacheB)).complete hst _ _

/-- The Engine step of a latched command keeps the invariant. -/
theorem State.Live.exec_latched {s s' : State} {l : Latch} {i : Instr} (h : s.Live) (hb : s.status.busy = true)
    (hst : s.stuck = false) (hl : s.latch = some l) (hi : decodeCommand l.word = .ok i)
    (hexec : exec i s = .next s') : s'.Live := by
  have hbusy : s.status.busy ≠ false := by simp [hb]
  have hfits := Latch.fits_cases (h.latch_fits l hl)
  rw [hi] at hfits
  simp only [Except.ok.injEq] at hfits
  obtain ⟨rfl, -⟩ | ⟨rfl, -⟩ | ⟨-, ⟨reg, n, rfl, hn⟩ | ⟨reg, n, rfl, -, hn⟩ | ⟨reg, v, rfl⟩ | ⟨reg, slot, rfl⟩⟩ := hfits
  · obtain ⟨hidle, -⟩ | ⟨-, l', c, hl', -, ⟨-, rfl⟩ | ⟨-, rfl⟩⟩ := execInit_cases hexec
    · exact absurd hidle hbusy
    · obtain rfl : l = l' := Option.some.inj (hl.symm.trans hl')
      exact (h.asked _ _).initAfterConfig hst hl hi c
    · exact (h.asked _ _).initAfterInstall hst hl hi c
  · obtain ⟨hidle, -⟩ | ⟨-, l', t, hl', -, ⟨-, -, rfl⟩ | ⟨-, -, rfl⟩⟩ := execReadBoth_cases hexec
    · exact absurd hidle hbusy
    · obtain rfl : l = l' := Option.some.inj (hl.symm.trans hl')
      exact ((h.transacted _ _ t).landPort .portA t).readBothAfterA (by simpa using hst) (by simpa using hl) hi t
    · exact ((h.transacted _ _ t).landPort .portB t).readBothAfterB (by simpa using hst) t
  · obtain ⟨hidle, -⟩ | ⟨hidle, -⟩ | ⟨-, l', t, -, -, -, -, rfl⟩ := execWriteReg_cases hexec
    · exact absurd hidle hbusy
    · exact absurd hidle hbusy
    · exact (h.transacted _ _ t).complete (by simpa using hst) _ _
  · obtain ⟨hidle, -⟩ | ⟨hidle, -⟩ | ⟨hidle, -⟩ | ⟨-, l', t, -, -, -, -, -, rfl⟩ := execReadReg_cases hexec
    · exact absurd hidle hbusy
    · exact absurd hidle hbusy
    · exact absurd hidle hbusy
    · exact ((h.transacted _ _ t).landRead (by simpa using hn) t).complete (by simpa using hst) _ _
  · obtain ⟨hidle, -⟩ | ⟨-, l', t, -, -, -, -, rfl⟩ := execWriteConfig_cases hexec
    · exact absurd hidle hbusy
    · exact (h.transacted _ _ t).completeFacade (by simpa using hst) _ _ _ _
  · obtain ⟨hidle, -⟩ | ⟨-, l', t, -, -, -, -, rfl⟩ := execReadPort_cases hexec
    · exact absurd hidle hbusy
    · exact ((h.transacted _ _ t).landPort slot t).completeFacade (by simpa using hst) _ _ _ _

/-- A primitive word given to the Bus Controller reaches only the bus (10_state.md R44). -/
theorem exec_prim_onBus {p : PrimWord} {i : Instr} {s s' : State} (hp : decodePrim p = .ok i)
    (h : exec i s = .next s') : ∃ f, s' = s.onBus f := by
  obtain rfl | rfl | ⟨b, rfl⟩ | rfl | rfl := decodePrim_prim hp <;> cases h <;> exact ⟨_, rfl⟩

/-- Settles O57: the invariant, kept by each of the things a step can do (`step_cases`); out of reset by the commands
(`State.Live.exec_idle`, `State.Live.exec_latched`) and the Host's writes. -/
theorem stepKeepsInvariant : Obligations.StepKeepsInvariant := by
  intro s s' h hstep
  obtain ⟨-, -, rfl⟩ | ⟨l, i, hrun, hexec⟩ | ⟨off, rest, -, -, -, rfl⟩ | ⟨off, v, rest, -, -, -, hw⟩ |
    ⟨p, i, rest, -, hp, hexec⟩ | ⟨rest, -, rfl⟩ | ⟨rest, -, rfl⟩ := step_cases hstep
  · exact h.withScript _
  · obtain ⟨-, hb, hst, hl, hi⟩ := hrun
    exact (((h.withScript s.script.tail).live_of_busy hb).exec_latched hb hst hl hi hexec).toInv
  · exact (h.withScript rest).hostRead off
  · have hlive (hr : s.inReset = false) : State.Live { s with script := rest } := ⟨h.withScript rest, hr⟩
    obtain ⟨-, rfl⟩ | ⟨hr, -, -, rfl⟩ | ⟨hr, -, hb, -, rfl⟩ | ⟨hr, -, hb, i, -, hexec⟩ | ⟨hr, -, rfl⟩ := hw
    · exact h.withScript rest
    · exact (hlive hr).dropWrite.toInv
    · exact ((hlive hr).complete (h.not_stuck_of_idle hb) _ _).toInv
    · exact ((hlive hr).exec_idle hb hexec).toInv
    · exact ((hlive hr).windowWrite off v).toInv
  · obtain ⟨f, rfl⟩ := exec_prim_onBus hp hexec
    exact (h.withScript rest).onBus f
  · exact (h.withScript rest).assertReset
  · exact (h.withScript rest).releaseReset

end Sys2Proof.Machine

/-! Proofs about frames and records: what no instruction changes (10_state.md R35, R39), what a step does to OVR,
REINIT and the model's faults (10_state.md R28, R30; 60_exceptions.md R186, R188), and the statements settled from it.
-/

namespace Sys2Proof.Machine

/-! ### Frames -/

/-- What no instruction changes, with the exchanges added to the request history: `s'` comes after `s`. -/
structure State.Keeps (s s' : State) (new : List Exchange) : Prop where
  nBuf : s'.nBuf = s.nBuf
  device : s'.device = s.device
  ovr : s'.status.ovr = s.status.ovr
  reinit : s'.status.reinit = s.status.reinit
  inReset : s'.inReset = s.inReset
  faults : s'.faults = s.faults
  faultRecord : s'.faultRecord = s.faultRecord
  script : s'.script = s.script
  reads : s'.reads = s.reads
  txbuf : Memory.wf s.mem = true → ∀ a, a < rxBase → Memory.read s'.mem a = Memory.read s.mem a
  history : s'.history = s.history ++ new

/-- A change of other fields only. -/
theorem State.Keeps.of_fields {s s' : State} (nBuf : s'.nBuf = s.nBuf) (device : s'.device = s.device)
    (ovr : s'.status.ovr = s.status.ovr) (reinit : s'.status.reinit = s.status.reinit)
    (inReset : s'.inReset = s.inReset) (faults : s'.faults = s.faults) (faultRecord : s'.faultRecord = s.faultRecord)
    (script : s'.script = s.script) (reads : s'.reads = s.reads) (mem : s'.mem = s.mem)
    (history : s'.history = s.history) : s.Keeps s' [] :=
  ⟨nBuf, device, ovr, reinit, inReset, faults, faultRecord, script, reads, fun _ _ _ => by rw [mem],
    by rw [history, List.append_nil]⟩

theorem State.Keeps.of_onBus (s : State) (f : Nat → Transfer → Bus → Bus) : s.Keeps (s.onBus f) [] := by
  apply State.Keeps.of_fields <;> simp

theorem State.Keeps.complete {s u : State} {new : List Exchange} (h : s.Keeps u new) (c : Word) (e : EngineError) :
    s.Keeps (u.complete c e) new :=
  { h with }

theorem State.Keeps.completeFacade {s u : State} {new : List Exchange} (h : s.Keeps u new) (c : Word)
    (op : BitVec 4) (reg v : Byte) : s.Keeps (u.completeFacade c op reg v) new := by
  rw [State.completeFacade_eq]
  exact { h with }

theorem State.Keeps.spoilResult {s u : State} {new : List Exchange} (h : s.Keeps u new) : s.Keeps u.spoilResult new :=
  { h with }

theorem State.Keeps.toSubStep {s u : State} {new : List Exchange} (h : s.Keeps u new) (l : Latch) (step : SubStep) :
    s.Keeps (u.toSubStep l step) new :=
  { h with }

theorem State.Keeps.landRead {s u : State} {new : List Exchange} (h : s.Keeps u new) (hu : u.mem = s.mem) (n : Nat)
    (t : Transfer) : s.Keeps (u.landRead n t) new := by
  obtain ⟨bytes, d, hland, -⟩ := State.landRead_eq n t u
  rw [hland]
  exact { h with
    txbuf := fun hm a ha => by
      show Memory.read (Memory.writeBytes u.mem rxBase bytes) a = _
      rw [hu, read_writeBytes_outside hm (by omega)] }

theorem State.Keeps.landPort {s u : State} {new : List Exchange} (h : s.Keeps u new) (hu : u.mem = s.mem)
    (slot : Slot) (t : Transfer) : s.Keeps (u.landPort slot t) new := by
  have hland := h.landRead hu 1 t
  unfold State.landPort
  split
  · cases slot <;> exact { hland with }
  · exact hland

theorem State.keeps_accept (s : State) (op : BitVec 4) (reg arg : Byte) (step : SubStep) :
    s.Keeps (s.accept op reg arg step) [] :=
  .of_fields rfl rfl rfl rfl rfl rfl rfl rfl rfl rfl rfl

theorem State.keeps_complete (s : State) (c : Word) (e : EngineError) : s.Keeps (s.complete c e) [] :=
  .of_fields rfl rfl rfl rfl rfl rfl rfl rfl rfl rfl rfl

theorem State.keeps_transacted (s : State) (chan : Byte) (body : List PrimWord) (t : Transfer) :
    s.Keeps (s.transacted chan body t) [⟨.submit chan (queueOf body) Config.timeoutMs, .transfer t⟩] := by
  constructor <;> simp

theorem State.keeps_asked (s : State) (req : Request) (rep : Reply) :
    s.Keeps ((s.takeReply 1).record req rep) [⟨req, rep⟩] :=
  ⟨rfl, rfl, rfl, rfl, rfl, rfl, rfl, rfl, rfl, fun _ _ _ => rfl, rfl⟩

theorem State.Keeps.initAfterConfig {s u : State} {new : List Exchange} (h : s.Keeps u new) (l : Latch)
    (c : Option Word) : s.Keeps (initAfterConfig l c u) new := by
  unfold Machine.initAfterConfig
  split
  · exact { h with }
  · split
    · exact h.completeFacade _ _ _ _
    · exact h.toSubStep l _

theorem State.Keeps.initAfterInstall {s u : State} {new : List Exchange} (h : s.Keeps u new) (c : Option Word) :
    s.Keeps (initAfterInstall c u) new := by
  unfold Machine.initAfterInstall
  split
  · exact { h with }
  · split
    · exact h.completeFacade _ _ _ _
    · exact { h with }

theorem State.Keeps.readBothAfterA {s u : State} {new : List Exchange} (h : s.Keeps u new) (l : Latch)
    (t : Transfer) : s.Keeps (readBothAfterA l t u) new := by
  unfold Machine.readBothAfterA
  split
  · exact h.spoilResult.completeFacade _ _ _ _
  · exact h.toSubStep l _

theorem State.Keeps.readBothAfterB {s u : State} {new : List Exchange} (h : s.Keeps u new) (t : Transfer) :
    s.Keeps (readBothAfterB t u) new := by
  unfold Machine.readBothAfterB
  split
  · exact h.spoilResult.completeFacade _ _ _ _
  · exact { h with }

/-! ### What any instruction keeps -/

/-- The state as the instruction finds it, an INIT accepted with INST = 1 already marked (42_facade.md R155). -/
def State.marked (i : Instr) (s : State) : State :=
  if i = .init ∧ s.status.busy = false then s.markReinit else s

theorem State.marked_of_ne_init {i : Instr} (hi : i ≠ .init) (s : State) : s.marked i = s := if_neg fun h => hi h.1

theorem State.marked_of_busy {s : State} (hb : s.status.busy = true) (i : Instr) : s.marked i = s :=
  if_neg fun h => by simp [hb] at h

/-- Any instruction: what it keeps beside INIT's mark, and that it adds at most one exchange. -/
theorem exec_keeps {i : Instr} {s s' : State} (h : exec i s = .next s') :
    ∃ new : List Exchange, new.length ≤ 1 ∧ (s.marked i).Keeps s' new := by
  cases i with
  | init =>
    obtain ⟨hb, rfl⟩ | ⟨hb, l, c, -, -, ⟨-, rfl⟩ | ⟨-, rfl⟩⟩ := execInit_cases h
    · rw [State.marked, if_pos ⟨rfl, hb⟩]
      exact ⟨[], Nat.zero_le 1, s.markReinit.keeps_accept _ _ _ _⟩
    · rw [State.marked_of_busy hb]
      exact ⟨_, le_rfl, (s.keeps_asked _ _).initAfterConfig l c⟩
    · rw [State.marked_of_busy hb]
      exact ⟨_, le_rfl, (s.keeps_asked _ _).initAfterInstall c⟩
  | writeReg reg n =>
    obtain ⟨-, -, rfl⟩ | ⟨-, -, rfl⟩ | ⟨-, l, t, -, -, -, -, rfl⟩ := execWriteReg_cases h
    · exact ⟨[], Nat.zero_le 1, s.keeps_complete _ _⟩
    · exact ⟨[], Nat.zero_le 1, s.keeps_accept _ _ _ _⟩
    · exact ⟨_, le_rfl, (s.keeps_transacted _ _ t).complete _ _⟩
  | readReg reg n =>
    obtain ⟨-, -, rfl⟩ | ⟨-, -, rfl⟩ | ⟨-, -, -, rfl⟩ | ⟨-, l, t, -, -, -, -, -, rfl⟩ := execReadReg_cases h
    · exact ⟨[], Nat.zero_le 1, s.keeps_complete _ _⟩
    · exact ⟨[], Nat.zero_le 1, s.keeps_complete _ _⟩
    · exact ⟨[], Nat.zero_le 1, s.keeps_accept _ _ _ _⟩
    · exact ⟨_, le_rfl, ((s.keeps_transacted _ _ t).landRead (by simp) n t).complete _ _⟩
  | writeConfig reg v =>
    obtain ⟨-, rfl⟩ | ⟨-, l, t, -, -, -, -, rfl⟩ := execWriteConfig_cases h
    · exact ⟨[], Nat.zero_le 1, s.keeps_accept _ _ _ _⟩
    · exact ⟨_, le_rfl, (s.keeps_transacted _ _ t).completeFacade _ _ _ _⟩
  | readPort reg slot =>
    obtain ⟨-, rfl⟩ | ⟨-, l, t, -, -, -, -, rfl⟩ := execReadPort_cases h
    · exact ⟨[], Nat.zero_le 1, s.keeps_accept _ _ _ _⟩
    · exact ⟨_, le_rfl, ((s.keeps_transacted _ _ t).landPort (by simp) slot t).completeFacade _ _ _ _⟩
  | readBoth =>
    obtain ⟨-, rfl⟩ | ⟨-, l, t, -, -, ⟨-, -, rfl⟩ | ⟨-, -, rfl⟩⟩ := execReadBoth_cases h
    · exact ⟨[], Nat.zero_le 1, s.keeps_accept _ _ _ _⟩
    · exact ⟨_, le_rfl, ((s.keeps_transacted _ _ t).landPort (by simp) .portA t).readBothAfterA l t⟩
    · exact ⟨_, le_rfl, ((s.keeps_transacted _ _ t).landPort (by simp) .portB t).readBothAfterB t⟩
  | start | stop | wr data | rdAck | rdNack =>
    cases h
    exact ⟨[], Nat.zero_le 1, .of_onBus s _⟩

/-- INIT's mark is on REINIT and the faults alone (42_facade.md R155). -/
theorem State.marked_fields (i : Instr) (s : State) :
    (s.marked i).device = s.device ∧ (s.marked i).status.ovr = s.status.ovr ∧ (s.marked i).nBuf = s.nBuf ∧
      (s.marked i).inReset = s.inReset ∧ (s.marked i).script = s.script ∧ (s.marked i).reads = s.reads ∧
      (s.marked i).mem = s.mem ∧ (s.marked i).history = s.history := by
  unfold State.marked
  split
  · simp [State.markReinit_status]
  · exact ⟨rfl, rfl, rfl, rfl, rfl, rfl, rfl, rfl⟩

/-- Settles O45: what `exec_keeps` says of any instruction, INIT's mark being on none of these fields. -/
theorem instructionFrame : Obligations.InstructionFrame := by
  intro i s s' hm h
  obtain ⟨new, hlen, hkeeps⟩ := exec_keeps h
  obtain ⟨hdevice, hovr, hnBuf, hinReset, hscript, hreads, hmem, hhistory⟩ := s.marked_fields i
  refine ⟨hkeeps.device.trans hdevice, hkeeps.ovr.trans hovr, hkeeps.nBuf.trans hnBuf, hkeeps.inReset.trans hinReset,
    hkeeps.script.trans hscript, hkeeps.reads.trans hreads, fun a ha => ?_, ?_⟩
  · rw [hkeeps.txbuf (hmem ▸ hm) a ha, hmem]
  · rw [hkeeps.history, hhistory]
    match new, hlen with
    | [], _ => exact .inl (List.append_nil _)
    | [x], _ => exact .inr ⟨x, rfl⟩

/-! ### OVR, REINIT and the faults -/

/-- OVR, REINIT and the two lists of faults are the same in both states. -/
structure State.SameRecord (s s' : State) : Prop where
  ovr : s'.status.ovr = s.status.ovr
  reinit : s'.status.reinit = s.status.reinit
  faults : s'.faults = s.faults
  faultRecord : s'.faultRecord = s.faultRecord

theorem exec_record {i : Instr} {s s' : State} (h : exec i s = .next s') : (s.marked i).SameRecord s' := by
  obtain ⟨new, -, hkeeps⟩ := exec_keeps h
  exact ⟨hkeeps.ovr, hkeeps.reinit, hkeeps.faults, hkeeps.faultRecord⟩

/-- The word of INIT is 1, and no other word decodes to it (30_encoding.md R84). -/
theorem decodeCommand_init_iff (v : Word) : decodeCommand v = .ok .init ↔ v = 1#32 := by
  constructor
  · intro h
    obtain ⟨-, hword⟩ := encodeInvertsDecode (.command v) .init h
    exact (CodeWord.command.inj hword).symm
  · rintro rfl
    decide

/-- The offsets at which a Host write is dropped with BUSY = 1 (60_exceptions.md R186). -/
def dropsWhenBusy (off : Nat) : Prop := off = 0x000 ∨ off = 0x008 ∨ (0x100 ≤ off ∧ off < 0x200)

/-- A window write that is not dropped and is no STATUS write leaves STATUS (10_state.md R31). -/
theorem State.windowWrite_status {s : State} {off : Nat} (v : Word)
    (hdrop : ¬(s.status.busy = true ∧ dropsWhenBusy off)) (h4 : off ≠ 0x004) :
    (s.windowWrite off v).status = s.status := by
  have hidle (hoff : dropsWhenBusy off) : ¬s.status.busy = true := fun hb => hdrop ⟨hb, hoff⟩
  rw [State.windowWrite, if_neg h4]
  split_ifs with hdevice hb htx hb
  · exact absurd hb (hidle (.inr (.inl hdevice)))
  · rfl
  · exact absurd hb (hidle (.inr (.inr htx)))
  · simp
  · rfl

/-- What a Host write out of reset does to OVR, REINIT and the faults: it is dropped, clears flags, re-initialises, or
does nothing to them. -/
theorem hostWrite_record {off : Nat} {v : Word} {s s' : State} (hr : s.inReset = false)
    (h : hostWrite off v s = .next s') :
    (s.status.busy = true ∧ dropsWhenBusy off ∧ s' = s.dropWrite) ∨
    (off = 0x004 ∧ s' = { s with status := s.status.writeOneClear v }) ∨
    (off = 0x000 ∧ v = 1#32 ∧ s.status.busy = false ∧ s.markReinit.SameRecord s') ∨
    (¬(s.status.busy = true ∧ dropsWhenBusy off) ∧ off ≠ 0x004 ∧ ¬(off = 0x000 ∧ v = 1#32 ∧ s.status.busy = false) ∧
      s.SameRecord s') := by
  by_cases hdrop : s.status.busy = true ∧ dropsWhenBusy off
  · rw [hostWrite_of_busy v hr hdrop.1 hdrop.2] at h
    cases h
    exact .inl ⟨hdrop.1, hdrop.2, rfl⟩
  right
  rw [hostWrite, if_neg (by simp [hr])] at h
  by_cases h0 : off = 0
  · have hb : s.status.busy = false := by
      by_contra hb
      exact hdrop ⟨by simpa using hb, .inl h0⟩
    rw [if_pos h0] at h
    right
    cases hd : decodeCommand v with
    | error e =>
      rw [issue_of_decodeCommand_error hb hd] at h
      cases h
      have hv : v ≠ 1#32 := fun hv => by
        rw [(decodeCommand_init_iff v).mpr hv] at hd
        cases hd
      exact .inr ⟨hdrop, by omega, fun hinit => hv hinit.2.1, ⟨rfl, rfl, rfl, rfl⟩⟩
    | ok i =>
      rw [issue_of_decodeCommand_ok hb hd] at h
      have hrecord := exec_record h
      by_cases hi : i = .init
      · rw [State.marked, if_pos ⟨hi, hb⟩] at hrecord
        exact .inl ⟨h0, (decodeCommand_init_iff v).mp (hi ▸ hd), hb, hrecord⟩
      · rw [State.marked_of_ne_init hi] at hrecord
        have hv : v ≠ 1#32 := fun hv => by
          rw [(decodeCommand_init_iff v).mpr hv] at hd
          exact hi (Except.ok.inj hd).symm
        exact .inr ⟨hdrop, by omega, fun hinit => hv hinit.2.1, hrecord⟩
  · rw [if_neg h0] at h
    cases h
    by_cases h4 : off = 0x004
    · exact .inl ⟨h4, if_pos h4⟩
    · have hstatus := State.windowWrite_status v hdrop h4
      exact .inr (.inr ⟨hdrop, h4, fun hinit => h0 hinit.1,
        by rw [hstatus], by rw [hstatus], State.windowWrite_faults .., State.windowWrite_faultRecord ..⟩)

/-- A step's Host write is the one its event names. -/
theorem State.hostWrites_iff {s : State} {off : Nat} {v : Word} (h : s.hostWrites off v) (off' : Nat) (v' : Word) :
    s.hostWrites off' v' ↔ off' = off ∧ v' = v := by
  obtain ⟨rest, hs, hr⟩ := h
  simp only [State.hostWrites, hs, hr, List.cons.injEq, Event.host.injEq, Access.write.injEq, and_true, true_and,
    exists_and_left, exists_eq']
  exact and_congr eq_comm eq_comm

/-- In a step that asserts reset the Host writes nothing. -/
theorem State.resets.not_hostWrites {s : State} (h : s.resets) (off : Nat) (v : Word) : ¬s.hostWrites off v := by
  obtain ⟨rest, hs⟩ := h
  rintro ⟨rest', hs', -⟩
  rw [hs] at hs'
  cases hs'

theorem State.hostWrites.inReset_eq {s : State} {off : Nat} {v : Word} (h : s.hostWrites off v) :
    s.inReset = false := by
  obtain ⟨-, -, hr⟩ := h
  exact hr

/-- What any step does to OVR, REINIT and the faults: reset, a Host write, or nothing. -/
theorem step_record {s s' : State} (h : step s = .next s') :
    (s.resets ∧ s' = State.assertReset { s with script := s.script.tail }) ∨
    (¬s.resets ∧ ∃ off v, s.hostWrites off v ∧ off % 4 = 0 ∧
      hostWrite off v { s with script := s.script.tail } = .next s') ∨
    (¬s.resets ∧ (∀ off v, ¬s.hostWrites off v) ∧ s.SameRecord s') := by
  by_cases hreset : s.resets
  · rw [hreset.step_eq] at h
    cases h
    exact .inl ⟨hreset, rfl⟩
  right
  by_cases hw : ∃ off v, s.hostWrites off v
  · obtain ⟨off, v, rest, hs, hr⟩ := hw
    obtain ⟨hrefused, -⟩ := hostAccessRefusals s _ rest hs
    have hlegal : off % 4 = 0 ∧ off < 0x400 := by
      by_contra hoff
      obtain ⟨r, hstep⟩ := hrefused (.inr (by simp only [Access.offset]; omega))
      rw [hstep] at h
      cases h
    refine .inl ⟨hreset, off, v, ⟨rest, hs, hr⟩, hlegal.1, ?_⟩
    rw [← h, step_write hs hlegal.1 hlegal.2, hs, List.tail_cons]
  · simp only [not_exists] at hw
    refine .inr ⟨hreset, hw, ?_⟩
    have same : s.SameRecord s := ⟨rfl, rfl, rfl, rfl⟩
    obtain ⟨-, -, rfl⟩ | ⟨l, i, hrun, hexec⟩ | ⟨off, rest, -, -, -, rfl⟩ | ⟨off, v, rest, hs, -, -, hwrite⟩ |
      ⟨p, i, rest, -, hp, hexec⟩ | ⟨rest, hs, -⟩ | ⟨rest, -, rfl⟩ := step_cases h
    · exact { same with }
    · have hrecord := exec_record hexec
      rw [State.marked_of_busy (s := { s with script := s.script.tail }) hrun.busy_eq] at hrecord
      exact { hrecord with }
    · exact { same with }
    · obtain ⟨hr, rfl⟩ | ⟨hr, -⟩ | ⟨hr, -⟩ | ⟨hr, -⟩ | ⟨hr, -⟩ := hwrite
      · exact { same with }
      all_goals exact absurd ⟨rest, hs, hr⟩ (hw off v)
    · obtain ⟨f, rfl⟩ := exec_prim_onBus hp hexec
      exact ⟨by simp, by simp, by simp, by simp⟩
    · exact absurd ⟨rest, hs⟩ hreset
    · exact { same with }

/-! ## The obligations -/

/-- Settles O15: a dropped write by `overrunDropsTheWrite`; every step by what it does to OVR (`step_record`,
`hostWrite_record`). -/
theorem overrunFlag : Obligations.OverrunFlag := by
  refine ⟨fun _ => rfl, fun s => (Status.word_getLsbD_flags s.status).1, fun s s' off v h hw hb hoff => ?_,
    fun s s' h => ?_⟩
  · obtain ⟨hreset, -⟩ | ⟨-, off', v', hw', h4, -⟩ | ⟨-, hnone, -⟩ := step_record h
    · exact absurd hw (hreset.not_hostWrites off v)
    · obtain ⟨rfl, rfl⟩ := (State.hostWrites_iff hw off' v').mp hw'
      obtain ⟨rest, hs, hr⟩ := hw
      rw [overrunDropsTheWrite s off' v' rest hs hr hb h4 hoff] at h
      cases h
      rw [hs, List.tail_cons]
    · exact absurd hw (hnone off v)
  · obtain ⟨hreset, rfl⟩ | ⟨hreset, off, v, hw, h4, hwrite⟩ | ⟨hreset, hnone, hsame⟩ := step_record h
    · simp [hreset, hreset.not_hostWrites, Status.zero]
    · have hset : (∃ off' v', s.hostWrites off' v' ∧ off' % 4 = 0 ∧ dropsWhenBusy off') ↔ dropsWhenBusy off := by
        simp [State.hostWrites_iff hw, h4]
      have hclear : (∃ v', s.hostWrites 0x004 v' ∧ v'.getLsbD 8 = true) ↔ 0x004 = off ∧ v.getLsbD 8 = true := by
        simp [State.hostWrites_iff hw]
      show _ ↔ (s.status.busy = true ∧ ∃ off' v', s.hostWrites off' v' ∧ off' % 4 = 0 ∧ dropsWhenBusy off') ∨ _
      rw [hset, hclear]
      obtain ⟨hb, hdrop, rfl⟩ | ⟨rfl, rfl⟩ | ⟨rfl, rfl, hb, hrecord⟩ | ⟨hdrop, hne, -, hrecord⟩ :=
        hostWrite_record (s := { s with script := s.script.tail }) hw.inReset_eq hwrite
      · exact iff_of_true rfl (.inl ⟨hb, hdrop⟩)
      · simp [hreset, dropsWhenBusy, Status.writeOneClear]
      · have hb : s.status.busy = false := hb
        simp [hreset, hb, hrecord.ovr, State.markReinit_status]
      · simp [hreset, hdrop, hne.symm, hrecord.ovr]
    · simp [hreset, hnone, hsame.ovr]

/-- The step is the Host's INIT accepted with INST = 1, which the model records as its fault (42_facade.md R155). -/
def State.reinits (s : State) : Prop := s.hostWrites 0x000 1#32 ∧ s.status.busy = false ∧ s.status.inst = true

/-- What any step does to REINIT and the faults: reset, a STATUS write, a re-initialisation, or nothing. -/
theorem step_reinit {s s' : State} (h : step s = .next s') :
    (s.resets ∧ ¬s.reinits ∧ s'.status.reinit = false ∧ s'.faults = s.faults ∧ s'.faultRecord = []) ∨
    (¬s.resets ∧ s.reinits ∧ (∀ v, ¬s.hostWrites 0x004 v) ∧ s'.status.reinit = true ∧
      s'.faults = s.faults ++ [.reinitUndefined] ∧ s'.faultRecord = s.faultRecord ++ [.reinitUndefined]) ∨
    (¬s.resets ∧ ¬s.reinits ∧
      (s'.status.reinit = true ↔ s.status.reinit = true ∧ ¬∃ v, s.hostWrites 0x004 v ∧ v.getLsbD 10 = true) ∧
      s'.faults = s.faults ∧ s'.faultRecord = s.faultRecord) := by
  obtain ⟨hreset, rfl⟩ | ⟨hreset, off, v, hw, h4, hwrite⟩ | ⟨hreset, hnone, hsame⟩ := step_record h
  · exact .inl ⟨hreset, fun hre => hreset.not_hostWrites _ _ hre.1, rfl, rfl, rfl⟩
  · have hreinits : s.reinits ↔ (0x000 = off ∧ 1#32 = v) ∧ s.status.busy = false ∧ s.status.inst = true :=
      and_congr_left' (State.hostWrites_iff hw _ _)
    have hclear : (∃ v', s.hostWrites 0x004 v' ∧ v'.getLsbD 10 = true) ↔ 0x004 = off ∧ v.getLsbD 10 = true := by
      simp [State.hostWrites_iff hw]
    rw [hclear, hreinits]
    right
    obtain ⟨hb, hdrop, rfl⟩ | ⟨rfl, rfl⟩ | ⟨rfl, rfl, hb, hrecord⟩ | ⟨-, hne, hinit, hrecord⟩ :=
      hostWrite_record (s := { s with script := s.script.tail }) hw.inReset_eq hwrite
    · have hb : s.status.busy = true := hb
      have hne : 0x004 ≠ off := by
        unfold dropsWhenBusy at hdrop
        omega
      exact .inr ⟨hreset, by simp [hb], by simp [hne, Status.overrun], rfl, rfl⟩
    · exact .inr ⟨hreset, by simp, by simp [Status.writeOneClear], rfl, rfl⟩
    · have hb : s.status.busy = false := hb
      by_cases hi : s.status.inst = true
      · refine .inl ⟨hreset, by simp [hb, hi], by simp [State.hostWrites_iff hw], ?_, ?_, ?_⟩
        · simp [hrecord.reinit, State.markReinit, hi]
        · simp [hrecord.faults, State.markReinit, hi]
        · simp [hrecord.faultRecord, State.markReinit, hi]
      · refine .inr ⟨hreset, by simp [hi], ?_, ?_, ?_⟩
        · simp [hrecord.reinit, State.markReinit, hi]
        · simp [hrecord.faults, State.markReinit, hi]
        · simp [hrecord.faultRecord, State.markReinit, hi]
    · refine .inr ⟨hreset, fun hre => hinit ⟨hre.1.1.symm, hre.1.2.symm, hre.2.1⟩, ?_, hrecord.faults,
        hrecord.faultRecord⟩
      simp [hrecord.reinit, hne.symm]
  · refine .inr (.inr ⟨hreset, fun hre => hnone _ _ hre.1, ?_, hsame.faults, hsame.faultRecord⟩)
    simp [hnone, hsame.reinit]

/-- Settles O18, by what each kind of step does to REINIT and the faults (`step_reinit`). -/
theorem reinitFlag : Obligations.ReinitFlag := by
  refine ⟨fun _ => rfl, fun s => (Status.word_getLsbD_flags s.status).2.2, fun s s' h => ?_, fun s s' v h hw => ?_,
    fun s s' h hw hb hi => ?_⟩
  · show _ ↔ s.reinits ∨ _
    obtain ⟨hreset, hre, hflag, -⟩ | ⟨-, hre, -, hflag, -⟩ | ⟨hreset, hre, hflag, -⟩ := step_reinit h
    · simp [hreset, hre, hflag]
    · simp [hre, hflag]
    · simp only [hreset, hre, hflag, not_false_eq_true, true_and, false_or]
  · obtain ⟨hreset, -⟩ | ⟨-, -, hnone, -⟩ | ⟨-, -, -, hfaults⟩ := step_reinit h
    · exact absurd hw (hreset.not_hostWrites _ _)
    · exact absurd hw (hnone v)
    · exact hfaults
  · obtain ⟨-, hre, -⟩ | ⟨-, -, -, -, hfaults⟩ | ⟨-, hre, -⟩ := step_reinit h
    · exact absurd ⟨hw, hb, hi⟩ hre
    · exact hfaults
    · exact absurd ⟨hw, hb, hi⟩ hre

/-- The step's event is the Host's write of INIT, out of reset. -/
theorem State.reinits_iff (s : State) :
    s.reinits ↔ s.status.busy = false ∧ s.status.inst = true ∧ s.inReset = false ∧
      s.script.head? = some (.host (.write 0x000 4 1#32)) := by
  have hhead : s.hostWrites 0x000 1#32 ↔
      s.inReset = false ∧ s.script.head? = some (.host (.write 0x000 4 1#32)) := by
    rw [List.head?_eq_some_iff]
    exact exists_and_right.trans and_comm
  rw [State.reinits, hhead]
  tauto

/-- No step clears the faults, so none is ever lost along a run (60_exceptions.md R188). -/
theorem run_faults_ne_nil {n : Nat} {s s' : State} (hf : s.faults ≠ []) (h : core.run n s = .next s') :
    s'.faults ≠ [] := by
  induction n generalizing s with
  | zero =>
    cases h
    exact hf
  | succ n ih =>
    cases hstep : step s with
    | next u =>
      rw [run_succ_of_step hstep] at h
      refine ih ?_ h
      obtain ⟨-, -, -, hu, -⟩ | ⟨-, -, -, -, hu, -⟩ | ⟨-, -, -, hu, -⟩ := step_reinit hstep
      · rwa [hu]
      · simp [hu]
      · rwa [hu]
    | fault r =>
      have hcore : core.step s = .fault r := hstep
      simp [Host.Core.run, hcore] at h
    | refused r =>
      have hcore : core.step s = .refused r := hstep
      simp [Host.Core.run, hcore] at h

/-- Settles O19: one step by `step_reinit`, a run by `run_faults_ne_nil`; a state with a fault is not final. -/
theorem faultRecord : Obligations.FaultRecord := by
  refine ⟨fun s s' h => ⟨_, rfl, ?_⟩, fun n s s' hf h => ?_⟩
  · obtain ⟨hreset, hre, -, hfaults, hrecord⟩ | ⟨hreset, hre, -, -, hfaults, hrecord⟩ |
      ⟨hreset, hre, -, hfaults, hrecord⟩ := step_reinit h <;> rw [State.reinits_iff] at hre
    · exact ⟨by rw [if_neg hre, hfaults, List.append_nil], absurd hreset, fun _ => hrecord⟩
    · rw [if_pos hre]
      exact ⟨hfaults, fun _ => hrecord, fun h => absurd h hreset⟩
    · rw [if_neg hre, List.append_nil, List.append_nil]
      exact ⟨hfaults, fun _ => hrecord, fun h => absurd h hreset⟩
  · have hs' := run_faults_ne_nil hf h
    exact ⟨hs', by simp [State.final, hs']⟩

end Sys2Proof.Machine

/-! Proofs about the steps of commands (41_transport.md, 42_facade.md; 40_session.md section 4): acceptance,
WRITE_CONFIG's step and READ_BOTH's second, what each Engine step does with an answer outside the contract, INIT
unanswered, and completion. -/

namespace Sys2Proof.Machine

/-! ### Which instruction a step runs -/

/-- Settles O7: a CMD write by `step_commandWrite_of_idle`, a latched command by `State.running.step_eq`, a primitive
word by the decoder's answer. -/
theorem stepRunsTheInstruction : Obligations.StepRunsTheInstruction := by
  refine ⟨fun s w i rest hs hr hb hi => step_commandWrite_of_idle hs hr hb hi,
    fun s l i hrun => hrun.step_eq, fun s p i rest hs hi => ?_⟩
  simp only [step, hs, runEvent, primTurn, hi]

/-- While idle or stuck the Engine's turn passes (60_exceptions.md R200, 40_session.md R122). -/
theorem engineTurn_of_idle_or_stuck {s : State} (h : s.status.busy = false ∨ s.stuck = true) :
    engineTurn s = .next s := by
  rw [engineTurn, if_neg]
  obtain h | h := h <;> simp [h]

/-- Settles O8: the Engine's turn comes with the event taken, and passes (`engineTurn_of_idle_or_stuck`). -/
theorem idleOrStuckEngineDoesNothing : Obligations.IdleOrStuckEngineDoesNothing := fun s hm h => by
  rw [step_of_engineMoves hm]
  exact engineTurn_of_idle_or_stuck (s := { s with script := s.script.tail }) h

/-! ### Acceptance -/

/-- Settles O26: an idle engine's answer to each command, of which acceptance is the last branch. -/
theorem commandsAreAccepted : Obligations.CommandsAreAccepted := by
  intro s reg v slot n hb
  refine ⟨fun hn => ?_, fun h1 hn => ?_, exec_writeConfig_of_idle hb reg v, ?_, exec_readBoth_of_idle hb⟩
  · rw [exec_writeReg_of_idle hb, if_neg (not_lt.mpr hn)]
    rfl
  · rw [exec_readReg_of_idle hb, if_neg (not_lt.mpr hn), if_neg (Nat.pos_iff_ne_zero.mp h1)]
    rfl
  · rw [exec_readPort_of_idle hb]
    cases slot <;> rfl

/-- Settles O27: INIT is accepted after its mark, which depends on INST alone. -/
theorem initIsAccepted : Obligations.InitIsAccepted := by
  intro s hb
  rw [exec_init_of_idle hb]
  refine ⟨fun hi => ?_, fun hi => ?_⟩
  · rw [State.markReinit, if_neg (by simp [hi])]
    rfl
  · rw [State.markReinit, if_pos hi]
    rfl

/-! ### Engine steps by their answers -/

/-- The Engine step of WRITE_CONFIG: one session with its queue, then completion by the answer's code (42_facade.md
R156). -/
theorem exec_writeConfig_transacted {s : State} {l : Latch} {reg v : Byte} {t : Transfer}
    (hb : s.status.busy = true) (hl : s.latch = some l) (hx : l.step = .xfer) (hs : s.sess = .none)
    (ht : s.nextTransfer (queueOf (writeBody l.ldev.addr reg [v])) = some t) :
    exec (.writeConfig reg v) s = .next
      ((s.transacted l.ldev.chan (writeBody l.ldev.addr reg [v]) t).completeFacade t.code 4#4 reg v) := by
  have hfit : (writeBody l.ldev.addr reg [v]).length < s.qMax := by
    rw [length_writeBody, State.qMax, List.length_singleton]
    omega
  rw [exec, execWriteConfig, if_pos hb, writeConfigStep, State.withXfer_eq hl hx, transact_eq _ hs hfit, ht,
    andThen_next_eq]

/-- Settles O36: the step is one session and a façade completion (`exec_writeConfig_transacted`); what they change is
`transacted_frame` and `State.completeFacade_eq`. -/
theorem writeConfigTransfers : Obligations.WriteConfigTransfers := by
  rintro s l reg v q t hb hl hx hs rfl ht
  obtain ⟨b, d, hframe⟩ := transacted_frame l.ldev.chan (writeBody l.ldev.addr reg [v]) t s
  refine ⟨b, d, ?_⟩
  rw [exec_writeConfig_transacted hb hl hx hs ht, State.completeFacade_eq, hframe]
  rfl

/-- Settles O40: what the port B read leaves is `portRead_eq`; then code 0 combines the two caches, and another code
completes the command with RESULT16 free. -/
theorem readBothReadsPortB : Obligations.ReadBothReadsPortB := by
  rintro s l q t hb hl hstep hs hm rfl ht
  rw [← queueOf_readBody_one] at ht ⊢
  obtain ⟨v, b, d, hland, hrx⟩ := portRead_eq .portB ht
  have hread (a : Nat) (ha : a ≠ rxBase) : Memory.read (Memory.write s.mem rxBase v) a = Memory.read s.mem a := by
    rw [read_write hm, if_neg ha]
  rw [exec_readBoth_b hb hl hstep hs ht, hland, readBothAfterB]
  by_cases hc : t.code = 0#32
  · refine ⟨_, combinePorts s.cacheA v, v, b, d, by simp [hc, State.complete_none], wf_write hm rxBase v, hread,
      fun _ => ⟨hrx hc, ?_, combinePorts_toNat s.cacheA v⟩, fun h => absurd hc h⟩
    rw [read_write hm, if_pos rfl]
  · refine ⟨_, Config.freeHalf d, s.cacheB, b, d + 1, ?_, wf_write hm rxBase v, hread, fun h => absurd h hc,
      fun _ => rfl⟩
    simp [hc, State.completeFacade_eq, State.spoilResult, portRegister]

/-! ### Answers outside the contract -/

/-- A session of a queue that fits is refused exactly if the next answer is none that its queue can get. -/
theorem transact_refused {body : List PrimWord} {s : State} (chan : Byte) (hs : s.sess = .none)
    (hl : body.length < s.qMax) (hn : s.nextTransfer (queueOf body) = none) :
    transact chan body s = .refused .replyBreaksContract := by
  rw [transact_eq chan hs hl, hn]

theorem readPortBody_refused {s : State} {d : Device} {reg : Byte} (slot : Slot) (hs : s.sess = .none)
    (hn : s.nextTransfer (queueOf (readBody d.addr reg 1)) = none) :
    readPortBody reg slot d s = .refused .replyBreaksContract := by
  have hfit : (readBody d.addr reg 1).length < s.qMax := by
    rw [length_readBody _ _ le_rfl, State.qMax]
    omega
  rw [readPortBody, transact_refused _ hs hfit hn]
  rfl

/-- What an Engine step answers: a next state if the next answer is one its request can get, else the refusal. -/
def AnsweredStep {α : Type} (answer : Option α) (r : Result State) : Prop :=
  (answer = none → r = .refused .replyBreaksContract) ∧ (∀ t, answer = some t → ∃ s', r = .next s')

theorem AnsweredStep.refused_iff {α : Type} {answer : Option α} {r : Result State} (h : AnsweredStep answer r) :
    r = .refused .replyBreaksContract ↔ answer = none := by
  refine ⟨fun hr => ?_, h.1⟩
  cases ha : answer with
  | none => rfl
  | some t =>
    obtain ⟨s', hs'⟩ := h.2 t ha
    rw [hr] at hs'
    cases hs'

theorem AnsweredStep.ne_fault {α : Type} {answer : Option α} {r : Result State} (h : AnsweredStep answer r)
    (f : Fault) : r ≠ .fault f := by
  rintro rfl
  cases ha : answer with
  | none => cases h.1 ha
  | some t =>
    obtain ⟨s', hs'⟩ := h.2 t ha
    cases hs'

section EngineSteps

variable {s : State} {l : Latch} (hb : s.status.busy = true) (hl : s.latch = some l)

include hb hl

theorem exec_writeReg_answered (hx : l.step = .xfer) (hs : s.sess = .none) (reg : Byte) {n : Nat} (hn : n ≤ s.nBuf) :
    AnsweredStep (s.nextTransfer (queueOf (writeBody l.ldev.addr reg (s.payload n)))) (exec (.writeReg reg n) s) := by
  refine ⟨fun hnone => ?_, fun t ht => ⟨_, exec_writeReg_transacted hb hl hx hs hn ht⟩⟩
  have hfit : (writeBody l.ldev.addr reg (s.payload n)).length < s.qMax := by
    rw [length_writeBody, length_payload, State.qMax]
    omega
  rw [exec, execWriteReg, if_pos hb, writeRegStep, State.withXfer_eq hl hx, transact_refused _ hs hfit hnone]
  rfl

theorem exec_readReg_answered (hx : l.step = .xfer) (hs : s.sess = .none) (reg : Byte) {n : Nat} (h1 : 1 ≤ n)
    (hn : n ≤ s.nBuf) :
    AnsweredStep (s.nextTransfer (queueOf (readBody l.ldev.addr reg n))) (exec (.readReg reg n) s) := by
  refine ⟨fun hnone => ?_, fun t ht => ⟨_, exec_readReg_transacted hb hl hx hs h1 hn ht⟩⟩
  have hfit : (readBody l.ldev.addr reg n).length < s.qMax := by
    rw [length_readBody _ _ h1, State.qMax]
    omega
  rw [exec, execReadReg, if_pos hb, readRegStep, State.withXfer_eq hl hx, if_neg (by omega),
    transact_refused _ hs hfit hnone]
  rfl

theorem exec_writeConfig_answered (hx : l.step = .xfer) (hs : s.sess = .none) (reg v : Byte) :
    AnsweredStep (s.nextTransfer (queueOf (writeBody l.ldev.addr reg [v]))) (exec (.writeConfig reg v) s) := by
  refine ⟨fun hnone => ?_, fun t ht => ⟨_, exec_writeConfig_transacted hb hl hx hs ht⟩⟩
  have hfit : (writeBody l.ldev.addr reg [v]).length < s.qMax := by
    rw [length_writeBody, State.qMax, List.length_singleton]
    omega
  rw [exec, execWriteConfig, if_pos hb, writeConfigStep, State.withXfer_eq hl hx, transact_refused _ hs hfit hnone]
  rfl

theorem exec_readPort_answered (hx : l.step = .xfer) (hs : s.sess = .none) (reg : Byte) (slot : Slot) :
    AnsweredStep (s.nextTransfer (queueOf (readBody l.ldev.addr reg 1))) (exec (.readPort reg slot) s) := by
  refine ⟨fun hnone => ?_, fun t ht => ⟨_, exec_readPort_transacted slot hb hl hx hs ht⟩⟩
  rw [exec, execReadPort, if_pos hb, readPortStep, State.withXfer_eq hl hx, readPortBody_refused slot hs hnone]
  rfl

theorem exec_readBoth_a_answered (hstep : l.step = .a) (hs : s.sess = .none) :
    AnsweredStep (s.nextTransfer (queueOf (readBody l.ldev.addr 0x12#8 1))) (exec .readBoth s) := by
  refine ⟨fun hnone => ?_, fun t ht => ⟨_, exec_readBoth_a hb hl hstep hs ht⟩⟩
  rw [exec, execReadBoth, if_pos hb, readBothStep, State.withLatch_eq hl]
  simp only [hstep, portRegister, readPortBody_refused .portA hs hnone]
  rfl

theorem exec_readBoth_b_answered (hstep : l.step = .b) (hs : s.sess = .none) :
    AnsweredStep (s.nextTransfer (queueOf (readBody l.ldev.addr 0x13#8 1))) (exec .readBoth s) := by
  refine ⟨fun hnone => ?_, fun t ht => ⟨_, exec_readBoth_b hb hl hstep hs ht⟩⟩
  rw [exec, execReadBoth, if_pos hb, readBothStep, State.withLatch_eq hl]
  simp only [hstep, portRegister, readPortBody_refused .portB hs hnone]
  rfl

theorem exec_init_answered (hstep : l.step = .cfg ∨ l.step = .inst) : AnsweredStep s.nextCode (exec .init s) := by
  refine ⟨fun hnone => ?_, fun c hc => ?_⟩
  · rw [exec, execInit, if_pos hb, initStep, State.withLatch_eq hl]
    obtain hstep | hstep := hstep <;> simp only [hstep, bcAsk, hnone] <;> rfl
  · obtain hstep | hstep := hstep
    · exact ⟨_, exec_init_cfg hb hl hstep hc⟩
    · exact ⟨_, exec_init_inst hb hl hstep hc⟩

end EngineSteps

/-- The next answer is none this queue can get exactly if one outside its contract is supplied (40_session.md R108,
R109). -/
theorem nextTransfer_eq_none_iff {s : State} {ps : List PrimWord} :
    s.nextTransfer ps = none ↔ s.answerBreaks ps.length (numReads ps) := by
  unfold State.nextTransfer State.answerBreaks
  split <;> rename_i ha <;> simp [ha, ← legalFor_iff, and_comm]

theorem length_queueOf (body : List PrimWord) : (queueOf body).length = body.length + 2 := by
  simp [queueOf]

theorem answerBreaks_writeQueue (s : State) (addr : BitVec 7) (reg : Byte) (bytes : List Byte) :
    s.nextTransfer (queueOf (writeBody addr reg bytes)) = none ↔ s.answerBreaks (bytes.length + 4) 0 := by
  rw [nextTransfer_eq_none_iff, numReads_writeQueue, length_queueOf, length_writeBody]

theorem answerBreaks_readQueue (s : State) (addr : BitVec 7) (reg : Byte) {n : Nat} (hn : 1 ≤ n) :
    s.nextTransfer (queueOf (readBody addr reg n)) = none ↔ s.answerBreaks (n + 6) n := by
  rw [nextTransfer_eq_none_iff, numReads_readQueue _ _ hn, length_queueOf, length_readBody _ _ hn]

/-- INIT's request has no answer of its kind exactly if a BcSubmit answer is supplied (40_session.md R118, R119). -/
theorem nextCode_eq_none_iff {s : State} : s.nextCode = none ↔ ∃ t rest, s.answers = .transfer t :: rest := by
  unfold State.nextCode
  split <;> rename_i ha <;> simp [ha]

/-- Settles O60: each Engine step is refused exactly if its request gets no answer (`AnsweredStep.refused_iff`), which
is said of the words and the RD words of its queue. -/
theorem illegalAnswersAreRejected : Obligations.IllegalAnswersAreRejected := by
  intro s l reg v n slot hb hl hs
  refine ⟨fun hx => ⟨fun hn => ?_, fun h1 hn => ?_, ?_, ?_⟩, fun hstep => ?_, fun hstep => ?_⟩
  · rw [(exec_writeReg_answered hb hl hx hs reg hn).refused_iff, answerBreaks_writeQueue, length_payload]
  · rw [(exec_readReg_answered hb hl hx hs reg h1 hn).refused_iff, answerBreaks_readQueue s _ _ h1]
  · exact (exec_writeConfig_answered hb hl hx hs reg v).refused_iff.trans (answerBreaks_writeQueue s _ _ [v])
  · exact (exec_readPort_answered hb hl hx hs reg slot).refused_iff.trans (answerBreaks_readQueue s _ _ le_rfl)
  · obtain hstep | hstep := hstep
    · exact (exec_readBoth_a_answered hb hl hstep hs).refused_iff.trans (answerBreaks_readQueue s _ _ le_rfl)
    · exact (exec_readBoth_b_answered hb hl hstep hs).refused_iff.trans (answerBreaks_readQueue s _ _ le_rfl)
  · rw [(exec_init_answered hb hl hstep).refused_iff, nextCode_eq_none_iff]

/-! ### No faults -/

/-- The latched command of a state of the invariant meets each `require` of its session, so its step is answered or
refused (40_session.md R101-R103). -/
theorem State.Inv.exec_latched_ne_fault {s : State} (h : s.Inv) (hb : s.status.busy = true) {l : Latch}
    (hl : s.latch = some l) {i : Instr} (hi : decodeCommand l.word = .ok i) (f : Fault) : exec i s ≠ .fault f := by
  have hs := h.sess_none.1
  have hfits := Latch.fits_cases (h.latch_fits l hl)
  rw [hi] at hfits
  simp only [Except.ok.injEq] at hfits
  obtain ⟨rfl, hstep⟩ | ⟨rfl, hstep | hstep⟩ |
    ⟨hx, ⟨reg, n, rfl, hn⟩ | ⟨reg, n, rfl, h1, hn⟩ | ⟨reg, v, rfl⟩ | ⟨reg, slot, rfl⟩⟩ := hfits
  · exact (exec_init_answered hb hl hstep).ne_fault f
  · exact (exec_readBoth_a_answered hb hl hstep hs).ne_fault f
  · exact (exec_readBoth_b_answered hb hl hstep hs).ne_fault f
  · exact (exec_writeReg_answered hb hl hx hs reg hn).ne_fault f
  · exact (exec_readReg_answered hb hl hx hs reg h1 hn).ne_fault f
  · exact (exec_writeConfig_answered hb hl hx hs reg v).ne_fault f
  · exact (exec_readPort_answered hb hl hx hs reg slot).ne_fault f

/-- The Engine's turn in a state of the invariant: what is latched decodes, and its step does not fault. -/
theorem State.Inv.engineTurn_ne_fault {s : State} (h : s.Inv) (f : Fault) : engineTurn s ≠ .fault f := by
  cases hb : s.status.busy with
  | false =>
    rw [engineTurn_of_idle_or_stuck (.inl hb)]
    simp
  | true =>
    obtain ⟨l, hl, hfits⟩ := h.latched_of_busy hb
    obtain ⟨i, hi⟩ : ∃ i, decodeCommand l.word = .ok i := by
      cases hd : decodeCommand l.word with
      | ok i => exact ⟨i, rfl⟩
      | error e => simp [Latch.fits, hd] at hfits
    cases hst : s.stuck with
    | false => simpa [engineTurn, hb, hst, hl, hi] using h.exec_latched_ne_fault hb hl hi f
    | true =>
      rw [engineTurn_of_idle_or_stuck (.inr hst)]
      simp

/-- A Host access has a next state or is refused (60_exceptions.md R189). -/
theorem hostAccess_ne_fault (a : Access) (s : State) (f : Fault) : hostAccess a s ≠ .fault f := by
  unfold hostAccess
  split_ifs
  · simp
  · simp
  · simp
  · cases a with
    | read off w => simp
    | write off w v =>
      obtain ⟨s', hs'⟩ := hostWrite_next off v s
      simp [hs']

/-- A primitive word has a next state or is refused (30_encoding.md R90). -/
theorem primTurn_ne_fault (p : PrimWord) (s : State) (f : Fault) : primTurn p s ≠ .fault f := by
  unfold primTurn
  split
  · simp
  · rename_i i hi
    obtain rfl | rfl | ⟨b, rfl⟩ | rfl | rfl := decodePrim_prim hi <;> nofun

/-- Settles O58: event by event; only the Engine's turn rests on the invariant (`State.Inv.engineTurn_ne_fault`). -/
theorem noStepFaults : Obligations.NoStepFaults := by
  intro s f h
  unfold step
  split
  · exact h.engineTurn_ne_fault f
  · rename_i e rest hs
    cases e with
    | host a => exact hostAccess_ne_fault a _ f
    | engine => exact (h.withScript rest).engineTurn_ne_fault f
    | prim p => exact primTurn_ne_fault p _ f
    | resetOn | resetOff | foreign => nofun

/-! ### INIT unanswered -/

@[simp] theorem State.windowWrite_busy (s : State) (off : Nat) (v : Word) :
    (s.windowWrite off v).status.busy = s.status.busy := by
  unfold State.windowWrite
  split_ifs <;> simp [Status.writeOneClear, Status.overrun]

/-- While INIT is stuck no step but reset changes BUSY, the latch or the being stuck (40_session.md R122). -/
theorem step_progress_of_stuck {s s' : State} (hb : s.status.busy = true) (hst : s.stuck = true)
    (h : step s = .next s') (hr : ¬s.resets) :
    s'.stuck = s.stuck ∧ s'.status.busy = s.status.busy ∧ s'.latch = s.latch := by
  have hidle : s.status.busy ≠ false := by simp [hb]
  obtain ⟨-, -, rfl⟩ | ⟨l, i, hrun, -⟩ | ⟨off, rest, -, -, -, rfl⟩ | ⟨off, v, rest, -, -, -, hw⟩ |
    ⟨p, i, rest, -, hp, hexec⟩ | ⟨rest, hs, -⟩ | ⟨rest, -, rfl⟩ := step_cases h
  · exact ⟨rfl, rfl, rfl⟩
  · obtain ⟨-, -, hfree, -, -⟩ := hrun
    rw [hst] at hfree
    cases hfree
  · exact ⟨rfl, rfl, rfl⟩
  · obtain ⟨-, rfl⟩ | ⟨-, -, -, rfl⟩ | ⟨-, -, hb', -⟩ | ⟨-, -, hb', -⟩ | ⟨-, -, rfl⟩ := hw
    · exact ⟨rfl, rfl, rfl⟩
    · exact ⟨rfl, rfl, rfl⟩
    · exact absurd hb' hidle
    · exact absurd hb' hidle
    · exact ⟨by simp, by simp, by simp⟩
  · obtain ⟨f, rfl⟩ := exec_prim_onBus hp hexec
    exact ⟨by simp, by simp, by simp⟩
  · exact absurd ⟨rest, hs⟩ hr
  · exact ⟨rfl, rfl, rfl⟩

/-- Settles O34: an answer that never comes leaves the engine stuck (`exec_init_cfg`, `exec_init_inst`); then
`step_progress_of_stuck`, and a CMD write is dropped (`overrunFlag`). -/
theorem unansweredInitIsStuck : Obligations.UnansweredInitIsStuck := by
  refine ⟨fun s l hb hl hc => ⟨fun hstep => ?_, fun hstep => ?_⟩, fun s s' h hst hstep hr => ?_⟩
  · exact ⟨(s.takeReply 1).draws, exec_init_cfg hb hl hstep hc⟩
  · exact ⟨(s.takeReply 1).draws, exec_init_inst hb hl hstep hc⟩
  · have hb : s.status.busy = true := by
      obtain ⟨l, hl, -⟩ := h.stuck_init hst
      rw [h.busy_latch, hl]
      rfl
    obtain ⟨hstuck, hbusy, hlatch⟩ := step_progress_of_stuck hb hst hstep hr
    refine ⟨hstuck.trans hst, hbusy.trans hb, hlatch, fun w hw => ?_⟩
    obtain ⟨-, -, hdropped, -⟩ := overrunFlag
    rw [hdropped s s' 0x000 w hstep hw hb (.inl rfl)]

/-! ### Completion -/

/-- A command has completed by the Bus Controller's code (41_transport.md R126). -/
structure State.Completed (s : State) : Prop where
  busy : s.status.busy = false
  done : s.status.done = true
  latch : s.latch = none
  err : s.status.err = .none
  fail : s.status.fail = true ↔ s.code ≠ 0#32

theorem State.completed_complete (c : Word) (s : State) : (s.complete c .none).Completed := by
  rw [State.complete_none]
  exact ⟨rfl, rfl, rfl, rfl, decide_eq_true_iff⟩

theorem State.completed_completeFacade (c : Word) (op : BitVec 4) (reg v : Byte) (s : State) :
    (s.completeFacade c op reg v).Completed := by
  rw [State.completeFacade_eq]
  exact ⟨rfl, rfl, rfl, rfl, decide_eq_true_iff⟩

theorem readBothAfterB_completed (t : Transfer) (s : State) : (readBothAfterB t s).Completed := by
  unfold readBothAfterB
  split
  · exact State.completed_completeFacade ..
  · exact State.completed_complete ..

/-- With no answer supplied a free one is drawn, so every submission is answered (40_session.md R107). -/
theorem nextTransfer_of_none_supplied {s : State} (h : s.answers = []) (ps : List PrimWord) :
    s.nextTransfer ps = some (freeTransfer ps s.draws) := by
  rw [State.nextTransfer, h]

/-- The Engine step of a latched command other than INIT, with no answer supplied, completes it, unless it is the port
A read of READ_BOTH, which may go on to port B. -/
theorem State.Inv.exec_latched_completes {s : State} (h : s.Inv) {l : Latch} {i : Instr} (hb : s.status.busy = true)
    (hl : s.latch = some l) (hi : decodeCommand l.word = .ok i) (hinit : i ≠ .init) (ha : s.answers = []) :
    ∃ s', exec i s = .next s' ∧
      (s'.Completed ∨ (i = .readBoth ∧ l.step = .a ∧ s'.latch = some { l with step := .b } ∧
        s'.status.busy = true ∧ s'.answers = [])) := by
  have hs := h.sess_none.1
  have ht := nextTransfer_of_none_supplied ha
  have hfits := Latch.fits_cases (h.latch_fits l hl)
  rw [hi] at hfits
  simp only [Except.ok.injEq] at hfits
  obtain ⟨rfl, -⟩ | ⟨rfl, hstep | hstep⟩ |
    ⟨hx, ⟨reg, n, rfl, hn⟩ | ⟨reg, n, rfl, h1, hn⟩ | ⟨reg, v, rfl⟩ | ⟨reg, slot, rfl⟩⟩ := hfits
  · exact absurd rfl hinit
  · refine ⟨_, exec_readBoth_a hb hl hstep hs (ht _), ?_⟩
    unfold readBothAfterA
    split
    · exact .inl (State.completed_completeFacade ..)
    · exact .inr ⟨rfl, hstep, rfl, by simpa [State.toSubStep] using hb, by simp [State.toSubStep, ha]⟩
  · exact ⟨_, exec_readBoth_b hb hl hstep hs (ht _), .inl (readBothAfterB_completed ..)⟩
  · exact ⟨_, exec_writeReg_transacted hb hl hx hs hn (ht _), .inl (State.completed_complete ..)⟩
  · exact ⟨_, exec_readReg_transacted hb hl hx hs h1 hn (ht _), .inl (State.completed_complete ..)⟩
  · exact ⟨_, exec_writeConfig_transacted hb hl hx hs (ht _), .inl (State.completed_completeFacade ..)⟩
  · exact ⟨_, exec_readPort_transacted slot hb hl hx hs (ht _), .inl (State.completed_completeFacade ..)⟩

/-- No instruction changes the events to come (log 2). -/
theorem exec_script {i : Instr} {s s' : State} (h : exec i s = .next s') : s'.script = s.script := by
  obtain ⟨new, -, hkeeps⟩ := exec_keeps h
  obtain ⟨-, -, -, -, hscript, -⟩ := s.marked_fields i
  exact hkeeps.script.trans hscript

/-- A latched command of the invariant other than INIT takes its Engine step with no events left. -/
theorem State.Inv.latched_step {s : State} (h : s.Inv) {l : Latch} (hl : s.latch = some l) (hop : l.op ≠ 1#4)
    (hscript : s.script = []) :
    ∃ i, i ≠ .init ∧ decodeCommand l.word = .ok i ∧ s.status.busy = true ∧ step s = exec i s := by
  have hb : s.status.busy = true := by
    rw [h.busy_latch, hl]
    rfl
  have hst : s.stuck = false := by
    by_contra hst
    obtain ⟨l', hl', hop'⟩ := h.stuck_init (by simpa using hst)
    obtain rfl : l = l' := Option.some.inj (hl.symm.trans hl')
    exact hop hop'
  cases hi : decodeCommand l.word with
  | error e =>
    have hfits := h.latch_fits l hl
    simp [Latch.fits, hi] at hfits
  | ok i =>
    refine ⟨i, fun hinit => hop (Latch.op_of_init (hinit ▸ hi)), rfl, hb, ?_⟩
    exact step_of_latched hscript hb hst hl hi

/-- Settles O42: the first Engine step completes the command or goes on to port B (`State.Inv.exec_latched_completes`),
whose step completes it; a completed command leaves the engine idle. -/
theorem commandsReachCompletion : Obligations.CommandsReachCompletion := by
  intro s l h hl hop hscript ha
  obtain ⟨i, hinit, hi, hb, hstep⟩ := h.latched_step hl hop hscript
  obtain ⟨u, hexec, hu⟩ := h.exec_latched_completes hb hl hi hinit ha
  have hustep := hstep.trans hexec
  have huscript : u.script = [] := (exec_script hexec).trans hscript
  suffices hend : ∃ s', step u = .next s' ∧ s'.Completed by
    obtain ⟨s', hs', hdone⟩ := hend
    exact ⟨s', (run_succ_of_step hustep 1).trans (run_succ_of_step hs' 0), hdone.busy, hdone.done, hdone.latch,
      hdone.err, hdone.fail⟩
  obtain hdone | ⟨rfl, hA, hul, hub, hua⟩ := hu
  · exact ⟨u, step_of_idle huscript hdone.busy, hdone⟩
  · obtain ⟨i', hinit', hi', -, hstep'⟩ := (stepKeepsInvariant s u h hustep).latched_step hul hop huscript
    obtain ⟨s', hexec', hdone | ⟨-, hB, -⟩⟩ :=
      (stepKeepsInvariant s u h hustep).exec_latched_completes hub hul hi' hinit' hua
    · exact ⟨s', hstep'.trans hexec', hdone⟩
    · cases hB

end Sys2Proof.Machine

/-! Proofs about the Bus Controller and the session (40_session.md): the primitives one by one, a submission as its
answer, the framing of every submission, and that the engine sees only the answers. -/

namespace Sys2Proof.Machine

/-! ### One primitive by the answer in force -/

/-- Settles O52: a primitive is one use of the bus, which changes only the bus side (`onBus_frame`). -/
theorem primitivesTouchOnlyTheBus : Obligations.PrimitivesTouchOnlyTheBus := by
  intro s v i hi
  have next {f : Nat → Transfer → Bus → Bus} :
      ∃ b d, (.next (s.onBus f) : Result State) = .next { s with bus := b, draws := d } := by
    obtain ⟨b, d, hframe⟩ := onBus_frame f s
    exact ⟨b, d, congrArg _ hframe⟩
  obtain rfl | rfl | rfl | rfl | rfl := hi <;> exact next

/-- START by the answer: failed at this index, or the bus is held and the queue goes on (40_session.md R111). -/
theorem Bus.start_eq (n : Nat) (t : Transfer) (b : Bus) :
    b.start n t =
      if t.code ≠ 0#32 ∧ t.k = b.k then b.stopFailed n t (if b.held then .restart else .start)
      else { b.ran (if b.held then .restart else .start) with held := true } :=
  if_congr (b.failsHere_iff t) rfl rfl

/-- STOP by the answer: failed at this index, or the bus is released and the submission over (40_session.md R112). -/
theorem Bus.stop_eq (n : Nat) (t : Transfer) (b : Bus) :
    b.stop n t =
      if t.code ≠ 0#32 ∧ t.k = b.k then b.stopFailed n t .stop
      else { b.ran .stop with held := false, plan := none } :=
  if_congr (b.failsHere_iff t) rfl rfl

/-- RD by the answer: failed at this index, or one more byte is read (40_session.md R114, R115). -/
theorem Bus.read_eq (nack : Bool) (n : Nat) (t : Transfer) (b : Bus) :
    b.read nack n t =
      if t.code ≠ 0#32 ∧ t.k = b.k then b.stopFailed n t (.read nack)
      else { b.ran (.read nack) with rx := b.rx ++ [t.rx.getD b.rx.length (Config.freeByte n)] } :=
  if_congr (b.failsHere_iff t) rfl rfl

/-- Settles O48: START runs on the submission's bus and fails at this index or holds the bus (`Bus.start_eq`); the
STOP and the hold after a failure are the values drawn here. -/
theorem startCondition : Obligations.StartCondition := by
  intro s t hp
  refine ⟨s.draws + 1, Config.freeStop s.draws, Config.freeHeld s.draws, ?_⟩
  rw [exec, execStart, State.busStart, onBus_planned hp, Bus.start_eq, Bus.stopFailed_eq, Bus.ran]

/-- Settles O49, as O48 by `Bus.stop_eq`. -/
theorem stopCondition : Obligations.StopCondition := by
  intro s t hp
  refine ⟨s.draws + 1, Config.freeStop s.draws, Config.freeHeld s.draws, ?_⟩
  rw [exec, execStop, State.busStop, onBus_planned hp, Bus.stop_eq, Bus.stopFailed_eq, Bus.ran]

/-- Settles O51, as O48 by `Bus.read_eq`; the byte read is the answer's where it gives one, else the value drawn here.
-/
theorem readByteOnBus : Obligations.ReadByteOnBus := by
  intro s t hp
  refine ⟨t.rx.getD s.bus.rx.length (Config.freeByte s.draws), s.draws + 1, Config.freeStop s.draws,
    Config.freeHeld s.draws, fun x hx => ?_, ?_, ?_⟩
  · rw [List.getD_eq_getElem?_getD, hx, Option.getD_some]
  · rw [exec, execRdAck, State.busRead, onBus_planned hp, Bus.read_eq, Bus.stopFailed_eq, Bus.ran]
  · rw [exec, execRdNack, State.busRead, onBus_planned hp, Bus.read_eq, Bus.stopFailed_eq, Bus.ran]

/-! ### One word of a queue -/

/-- The words on the wire, as the queue names them. -/
def Bus.sent (b : Bus) : List PrimWord := b.wire.map WireEvent.word

/-- The word `p` of a submission answered `t` fails: the code is reported, the submission is over, and a STOP may follow
(40_session.md R109). -/
structure Bus.Fails (p : PrimWord) (t : Transfer) (b b' : Bus) : Prop where
  code : b'.code = t.code
  k : b'.k = b.k
  sent : ∃ stop : Bool, b'.sent = b.sent ++ p :: (if stop then [stopWord] else [])

/-- The word `p` of a submission answered `t` completes (40_session.md R107, R111-R115). -/
structure Bus.Completes (p : PrimWord) (t : Transfer) (b b' : Bus) : Prop where
  code : b'.code = b.code
  k : b'.k = b.k + 1
  sent : b'.sent = b.sent ++ [p]
  plan : p ≠ stopWord → b'.plan = b.plan
  held : p = stopWord → b'.held = false
  rx : b'.rx = b.rx ∧ isRead p = false ∨
    isRead p = true ∧ ∀ x, t.rx[b.rx.length]? = some x → b'.rx = b.rx ++ [x]

theorem Bus.fails_stopFailed (ev : WireEvent) (n : Nat) (t : Transfer) (b : Bus) :
    Bus.Fails ev.word t b (b.stopFailed n t ev) where
  code := rfl
  k := rfl
  sent := by
    refine ⟨Config.freeStop n, ?_⟩
    rw [Bus.stopFailed_eq, Bus.sent, Bus.sent]
    split <;> simp [WireEvent.word]

theorem Bus.sent_ran (ev : WireEvent) (b : Bus) : (b.ran ev).sent = b.sent ++ [ev.word] := by
  simp [Bus.sent, Bus.ran]

/-- The word fails if the answer says so at this index, else it completes. -/
def Bus.RunsWord (p : PrimWord) (t : Transfer) (b b' : Bus) : Prop :=
  (t.code ≠ 0#32 ∧ t.k = b.k → Bus.Fails p t b b') ∧ (¬(t.code ≠ 0#32 ∧ t.k = b.k) → Bus.Completes p t b b')

/-- The shape of every primitive: the failing word, or what a completed one leaves. -/
theorem Bus.runsWord_ite {t : Transfer} {b b' : Bus} (ev : WireEvent) (n : Nat)
    (h : Bus.Completes ev.word t b b') :
    Bus.RunsWord ev.word t b (if t.code ≠ 0#32 ∧ t.k = b.k then b.stopFailed n t ev else b') := by
  refine ⟨fun hf => ?_, fun hf => ?_⟩
  · rw [if_pos hf]
    exact Bus.fails_stopFailed ev n t b
  · rwa [if_neg hf]

theorem wrWord_ne_stopWord (v : Byte) : wrWord v ≠ stopWord := by
  revert v
  decide

theorem Bus.start_runsWord (n : Nat) (t : Transfer) (b : Bus) : Bus.RunsWord startWord t b (b.start n t) := by
  have hword : (if b.held then WireEvent.restart else .start).word = startWord := by split <;> rfl
  have hruns := Bus.runsWord_ite (t := t) (b := b) (b' := { b.ran _ with held := true })
    (if b.held then .restart else .start) n
    ⟨rfl, rfl, Bus.sent_ran _ _, fun _ => rfl, fun h => absurd (hword.symm.trans h) (by decide),
      .inl ⟨rfl, by rw [hword]; decide⟩⟩
  rw [Bus.start_eq]
  rwa [hword] at hruns

theorem Bus.stop_runsWord (n : Nat) (t : Transfer) (b : Bus) : Bus.RunsWord stopWord t b (b.stop n t) := by
  rw [Bus.stop_eq]
  exact Bus.runsWord_ite .stop n
    ⟨rfl, rfl, Bus.sent_ran _ _, fun h => absurd rfl h, fun _ => rfl, .inl ⟨rfl, by decide⟩⟩

theorem Bus.write_runsWord (v : Byte) (n : Nat) (t : Transfer) (b : Bus) :
    Bus.RunsWord (wrWord v) t b (b.write v n t) := by
  rw [Bus.write_eq]
  exact Bus.runsWord_ite (.write v) n
    ⟨rfl, rfl, Bus.sent_ran _ _, fun _ => rfl, fun h => absurd h (wrWord_ne_stopWord v), .inl ⟨rfl, isRead_wr v⟩⟩

theorem Bus.read_runsWord (nack : Bool) (n : Nat) (t : Transfer) (b : Bus) :
    Bus.RunsWord (WireEvent.read nack).word t b (b.read nack n t) := by
  have hread : isRead (WireEvent.read nack).word = true ∧ (WireEvent.read nack).word ≠ stopWord := by
    cases nack <;> decide
  rw [Bus.read_eq]
  refine Bus.runsWord_ite (.read nack) n
    ⟨rfl, rfl, Bus.sent_ran _ _, fun _ => rfl, fun h => absurd h hread.2, .inr ⟨hread.1, fun x hx => ?_⟩⟩
  rw [List.getD_eq_getElem?_getD, hx, Option.getD_some]

/-- One word of a queue in a submission answered `t`. -/
theorem runPrim_runsWord {s : State} {t : Transfer} {p : PrimWord} (hp : ∃ i, decodePrim p = .ok i)
    (hplan : s.bus.plan = some t) : Bus.RunsWord p t s.bus (s.runPrim p).bus := by
  obtain ⟨i, hi⟩ := hp
  obtain ⟨-, hword⟩ := encode_of_decodePrim hi
  obtain rfl | rfl | ⟨v, rfl⟩ | rfl | rfl := decodePrim_prim hi <;> obtain rfl := CodeWord.primitive.inj hword
  · rw [State.runPrim, readPrim_start]
    exact congrArg State.bus (onBus_planned hplan _) ▸ Bus.start_runsWord _ t _
  · rw [State.runPrim, readPrim_stop]
    exact congrArg State.bus (onBus_planned hplan _) ▸ Bus.stop_runsWord _ t _
  · rw [State.runPrim, readPrim_wr]
    exact congrArg State.bus (onBus_planned hplan _) ▸ Bus.write_runsWord v _ t _
  · rw [State.runPrim, readPrim_rdAck]
    exact congrArg State.bus (onBus_planned hplan _) ▸ Bus.read_runsWord false _ t _
  · rw [State.runPrim, readPrim_rdNack]
    exact congrArg State.bus (onBus_planned hplan _) ▸ Bus.read_runsWord true _ t _

/-! ### A submission -/

section Queue

variable {p : PrimWord} {ps : List PrimWord} {t : Transfer} {s : State}

/-- Nothing runs after the failing word (40_session.md R109). -/
theorem runQueue_cons_of_fails (h : Bus.Fails p t s.bus (s.runPrim p).bus) (ht : t.code ≠ 0#32) :
    State.runQueue (p :: ps) s = s.runPrim p := by
  rw [State.runQueue, if_pos (by rwa [h.code])]

/-- A completed word leaves the rest of the queue to run (40_session.md R107). -/
theorem runQueue_cons_of_completes (h : Bus.Completes p t s.bus (s.runPrim p).bus) (hcode : s.bus.code = 0#32) :
    State.runQueue (p :: ps) s = State.runQueue ps (s.runPrim p) := by
  rw [State.runQueue, if_neg (by rw [h.code, hcode]; simp)]

/-- Of the answer's bytes still to come a completed word takes the first if it reads, else none (40_session.md R108). -/
theorem Bus.Completes.rx_rest {b b' : Bus} {ys : List Byte} (h : Bus.Completes p t b b') (hrx : t.rx = b.rx ++ ys)
    (hlen : ys.length = numReads (p :: ps)) : ∃ ys', t.rx = b'.rx ++ ys' ∧ ys'.length = numReads ps := by
  obtain ⟨hkeep, hread⟩ | ⟨hread, hnext⟩ := h.rx
  · refine ⟨ys, by rw [hkeep, hrx], ?_⟩
    rwa [numReads, List.countP_cons_of_neg (by simp [hread])] at hlen
  · rw [numReads, List.countP_cons_of_pos hread] at hlen
    obtain ⟨y, ys', rfl⟩ := List.exists_cons_of_length_eq_add_one hlen
    have hy : t.rx[b.rx.length]? = some y := by simp [hrx]
    exact ⟨ys', by simp [hnext y hy, hrx], by simpa [numReads] using hlen⟩

end Queue

/-- What a queue run to its failing word leaves: the answer's code, the words completed before, and the words up to the
failing one on the wire, with or without a STOP (40_session.md R109). -/
def Bus.EndsInFailure (t : Transfer) (b' : Bus) (words : List PrimWord) : Prop :=
  b'.code = t.code ∧ b'.k = t.k ∧ ∃ stop : Bool, b'.sent = words ++ (if stop then [stopWord] else [])

/-- The first word of the queue fails. -/
theorem runQueue_of_first_fails {p : PrimWord} {ps : List PrimWord} {t : Transfer} {s : State}
    (hp : ∃ i, decodePrim p = .ok i) (hplan : s.bus.plan = some t) (ht : t.code ≠ 0#32) (hk : t.k = s.bus.k) :
    Bus.EndsInFailure t (State.runQueue (p :: ps) s).bus (s.bus.sent ++ [p]) := by
  have hfails := (runPrim_runsWord hp hplan).1 ⟨ht, hk⟩
  rw [runQueue_cons_of_fails hfails ht]
  obtain ⟨stop, hsent⟩ := hfails.sent
  exact ⟨hfails.code, hfails.k.trans hk.symm, stop, by simp [hsent]⟩

/-- A queue answered by an error runs up to the failing word, `j` words on (40_session.md R109). -/
theorem runQueue_of_failure {ps : List PrimWord} {t : Transfer} {s : State} {j : Nat}
    (hp : ∀ p ∈ ps ++ [stopWord], ∃ i, decodePrim p = .ok i) (hstop : stopWord ∉ ps) (hplan : s.bus.plan = some t)
    (hcode : s.bus.code = 0#32) (ht : t.code ≠ 0#32) (hk : t.k = s.bus.k + j) (hj : j ≤ ps.length) :
    Bus.EndsInFailure t (State.runQueue (ps ++ [stopWord]) s).bus
      (s.bus.sent ++ (ps ++ [stopWord]).take (j + 1)) := by
  induction ps generalizing s j with
  | nil =>
    obtain rfl : j = 0 := Nat.le_zero.mp hj
    exact runQueue_of_first_fails (hp _ (by simp)) hplan ht hk
  | cons p ps ih =>
    cases j with
    | zero => exact runQueue_of_first_fails (hp _ (by simp)) hplan ht hk
    | succ j =>
      have hdone := (runPrim_runsWord (hp p (by simp)) hplan).2 (by omega)
      have hne : p ≠ stopWord := fun h => hstop (by simp [h])
      have hrest := ih (s := s.runPrim p) (j := j) (fun q hq => hp q (List.mem_cons_of_mem p hq))
        (fun h => hstop (List.mem_cons_of_mem p h)) ((hdone.plan hne).trans hplan) (hdone.code.trans hcode)
        (by rw [hdone.k]; omega) (Nat.le_of_succ_le_succ hj)
      rw [List.cons_append, runQueue_cons_of_completes hdone hcode, List.take_succ_cons]
      rwa [hdone.sent, List.append_assoc, List.singleton_append] at hrest

/-- What a queue run to its end leaves: no failure code, all words completed and on the wire, the answer's bytes read,
and the bus released (40_session.md R108, R112). -/
structure Bus.EndsInSuccess (t : Transfer) (b' : Bus) (k : Nat) (words : List PrimWord) : Prop where
  code : b'.code = 0#32
  k : b'.k = k
  sent : b'.sent = words
  rx : b'.rx = t.rx
  held : b'.held = false

/-- A queue answered 0 runs to its STOP, reading the bytes `ys` of the answer still to come (40_session.md R108). -/
theorem runQueue_of_success {ps : List PrimWord} {t : Transfer} {s : State} {ys : List Byte}
    (hp : ∀ p ∈ ps ++ [stopWord], ∃ i, decodePrim p = .ok i) (hstop : stopWord ∉ ps) (hplan : s.bus.plan = some t)
    (hcode : s.bus.code = 0#32) (ht : t.code = 0#32) (hrx : t.rx = s.bus.rx ++ ys)
    (hlen : ys.length = numReads (ps ++ [stopWord])) :
    Bus.EndsInSuccess t (State.runQueue (ps ++ [stopWord]) s).bus (s.bus.k + (ps.length + 1))
      (s.bus.sent ++ (ps ++ [stopWord])) := by
  have hok : ¬(t.code ≠ 0#32 ∧ t.k = s.bus.k) := fun h => h.1 ht
  induction ps generalizing s ys with
  | nil =>
    have hdone := (runPrim_runsWord (hp stopWord (by simp)) hplan).2 hok
    obtain ⟨ys', hrx', hlen'⟩ := hdone.rx_rest hrx hlen
    rw [List.nil_append, runQueue_cons_of_completes hdone hcode, State.runQueue]
    refine ⟨hdone.code.trans hcode, hdone.k, hdone.sent, ?_, hdone.held rfl⟩
    rw [hrx', List.eq_nil_of_length_eq_zero hlen', List.append_nil]
  | cons p ps ih =>
    have hdone := (runPrim_runsWord (hp p (by simp)) hplan).2 hok
    have hne : p ≠ stopWord := fun h => hstop (by simp [h])
    obtain ⟨ys', hrx', hlen'⟩ := hdone.rx_rest hrx hlen
    have hrest := ih (s := s.runPrim p) (ys := ys') (fun q hq => hp q (List.mem_cons_of_mem p hq))
      (fun h => hstop (List.mem_cons_of_mem p h)) ((hdone.plan hne).trans hplan) (hdone.code.trans hcode) hrx' hlen'
      (fun h => h.1 ht)
    rw [List.cons_append, runQueue_cons_of_completes hdone hcode]
    rw [hdone.sent, hdone.k, List.append_assoc, List.singleton_append, Nat.add_assoc, Nat.add_comm 1] at hrest
    exact hrest

/-- Settles O47: the queue runs from a bus with nothing sent; an answer 0 runs it to its end (`runQueue_of_success`),
another up to the word it says fails (`runQueue_of_failure`). -/
theorem submissionRunsAsAnswered : Obligations.SubmissionRunsAsAnswered := by
  intro prims t s hp hstop hlegal
  obtain ⟨hsuccess, hfailure⟩ := legalFor_iff.mp hlegal
  have hp' : ∀ p ∈ prims ++ [stopWord], ∃ i, decodePrim p = .ok i := fun p hmem => by
    obtain hmem | hmem := List.mem_append.mp hmem
    · exact hp p hmem
    · exact ⟨.stop, by rw [List.mem_singleton.mp hmem]; rfl⟩
  by_cases ht : t.code = 0#32
  · obtain ⟨hk, hlen⟩ := hsuccess ht
    obtain ⟨hcode, hk', hsent, hrx, hheld⟩ :=
      runQueue_of_success (s := { s with bus := Bus.begin t }) hp' hstop rfl rfl ht rfl hlen
    refine ⟨hcode.trans ht.symm, ?_, fun _ => ⟨hrx, hheld⟩, false, ?_⟩
    · refine hk'.trans ?_
      simp [hk, Bus.begin]
    · refine hsent.trans ?_
      simp [Bus.sent, Bus.begin, wireTrace, ht]
  · have hk := hfailure ht
    rw [List.length_append, List.length_singleton] at hk
    obtain ⟨hcode, hk', stop, hsent⟩ := runQueue_of_failure (s := { s with bus := Bus.begin t }) (j := t.k) hp' hstop
      rfl rfl ht (Nat.zero_add _).symm (Nat.le_of_lt_succ hk)
    refine ⟨hcode, hk', fun h => absurd h ht, stop, ?_⟩
    refine hsent.trans ?_
    simp [Bus.sent, Bus.begin, wireTrace, ht]

/-! ### Well-framed requests -/

/-- What the history and the bus show of an exchange sent in a step: a submission is framed, bounded, timed, answered
within the contract and run as answered; another request leaves the bus (40_session.md sections 1, 2 and 4). -/
def Exchange.WellFramed (nBuf : Nat) (old new : Bus) (x : Exchange) : Prop :=
  ((∀ chan prims ms, x.request ≠ .submit chan prims ms) → new = old) ∧
    ∀ chan prims ms, x.request = .submit chan prims ms →
      ms = 500 ∧ prims.length ≤ nBuf + 6 ∧ (∃ body, prims = startWord :: body ++ [stopWord]) ∧
        ∃ t, x.reply = .transfer t ∧ t.legalFor prims = true ∧ new.plan = none ∧ new.code = t.code ∧ new.k = t.k ∧
          (t.code = 0#32 → new.rx = t.rx ∧ new.held = false) ∧
          ∃ stop, new.wire.map WireEvent.word = wireTrace prims t stop

/-- The words between START and STOP are primitives, none of them STOP (40_session.md R102). -/
def IsBody (body : List PrimWord) : Prop := ∀ p ∈ body, (∃ i, decodePrim p = .ok i) ∧ p ≠ stopWord

theorem isBody_writeBody (addr : BitVec 7) (reg : Byte) (bytes : List Byte) : IsBody (writeBody addr reg bytes) := by
  have hwr (b : Byte) : (∃ i, decodePrim (wrWord b) = .ok i) ∧ wrWord b ≠ stopWord :=
    ⟨⟨_, decodePrim_wrWord b⟩, wrWord_ne_stopWord b⟩
  intro p hp
  simp only [writeBody, List.mem_cons, List.mem_map] at hp
  obtain rfl | rfl | ⟨b, -, rfl⟩ := hp <;> exact hwr _

theorem isBody_readBody (addr : BitVec 7) (reg : Byte) (n : Nat) : IsBody (readBody addr reg n) := by
  have hwr (b : Byte) : (∃ i, decodePrim (wrWord b) = .ok i) ∧ wrWord b ≠ stopWord :=
    ⟨⟨_, decodePrim_wrWord b⟩, wrWord_ne_stopWord b⟩
  intro p hp
  simp only [readBody, List.mem_append, List.mem_cons, List.mem_replicate, List.not_mem_nil, or_false] at hp
  obtain (rfl | rfl | rfl | rfl) | ⟨-, rfl⟩ | rfl := hp
  · exact hwr _
  · exact hwr _
  · exact ⟨⟨.start, rfl⟩, by decide⟩
  · exact hwr _
  · exact ⟨⟨.rdAck, rfl⟩, by decide⟩
  · exact ⟨⟨.rdNack, rfl⟩, by decide⟩

/-- The exchange of a whole session whose queue fits (40_session.md R100). -/
theorem transacted_wellFramed {s : State} {body : List PrimWord} {t : Transfer} (chan : Byte) (hbody : IsBody body)
    (hlen : body.length ≤ s.nBuf + 4) (ht : s.nextTransfer (queueOf body) = some t) :
    Exchange.WellFramed s.nBuf s.bus (s.transacted chan body t).bus
      ⟨.submit chan (queueOf body) Config.timeoutMs, .transfer t⟩ := by
  have hlegal : t.legalFor (queueOf body) = true := nextTransfer_legal (by simp [queueOf]) ht
  have hprims : ∀ p ∈ startWord :: body, ∃ i, decodePrim p = .ok i := fun p hp => by
    obtain rfl | hp := List.mem_cons.mp hp
    · exact ⟨.start, rfl⟩
    · exact (hbody p hp).1
  have hstop : stopWord ∉ startWord :: body := fun hp => by
    obtain h | hp := List.mem_cons.mp hp
    · exact absurd h (by decide)
    · exact (hbody _ hp).2 rfl
  obtain ⟨hcode, hk, hrx, hwire⟩ := submissionRunsAsAnswered (startWord :: body) t
    (State.takeReply (numReads (queueOf body) + 1) { s with sess := .submitted, pq := queueOf body })
    hprims hstop hlegal
  refine ⟨fun h => absurd rfl (h _ _ _), fun chan' prims ms hreq => ?_⟩
  cases hreq
  refine ⟨rfl, ?_, ⟨body, rfl⟩, t, rfl, hlegal, rfl, hcode, hk, hrx, hwire⟩
  rw [length_queueOf]
  omega

/-- A step from `s` to `s'` adds no exchange, or one that is well framed. -/
def State.AddsWellFramed (s s' : State) : Prop :=
  s'.history = s.history ∨ ∃ x, s'.history = s.history ++ [x] ∧ x.WellFramed s.nBuf s.bus s'.bus

/-- A session and what the command does after it, which reaches neither the history nor the bus. -/
theorem State.AddsWellFramed.of_transacted {s s' : State} {body : List PrimWord} {t : Transfer} (chan : Byte)
    (hbody : IsBody body) (hlen : body.length ≤ s.nBuf + 4) (ht : s.nextTransfer (queueOf body) = some t)
    (hhistory : s'.history = (s.transacted chan body t).history) (hbus : s'.bus = (s.transacted chan body t).bus) :
    s.AddsWellFramed s' :=
  .inr ⟨_, hhistory.trans (by simp), hbus ▸ transacted_wellFramed chan hbody hlen ht⟩

/-- A configure or install request and what INIT does after it. -/
theorem State.AddsWellFramed.of_asked {s s' : State} {x : Exchange}
    (hx : ∀ chan prims ms, x.request ≠ .submit chan prims ms)
    (hhistory : s'.history = s.history ++ [x]) (hbus : s'.bus = s.bus) : s.AddsWellFramed s' :=
  .inr ⟨x, hhistory, fun _ => hbus, fun chan prims ms hreq => absurd hreq (hx chan prims ms)⟩

theorem initAfterConfig_history_bus (l : Latch) (c : Option Word) (s : State) :
    (initAfterConfig l c s).history = s.history ∧ (initAfterConfig l c s).bus = s.bus := by
  unfold initAfterConfig
  split
  · exact ⟨rfl, rfl⟩
  · split
    · exact ⟨State.completeFacade_history .., State.completeFacade_bus ..⟩
    · exact ⟨rfl, rfl⟩

theorem initAfterInstall_history_bus (c : Option Word) (s : State) :
    (initAfterInstall c s).history = s.history ∧ (initAfterInstall c s).bus = s.bus := by
  unfold initAfterInstall
  split
  · exact ⟨rfl, rfl⟩
  · split
    · exact ⟨State.completeFacade_history .., State.completeFacade_bus ..⟩
    · exact ⟨rfl, rfl⟩

theorem readBothAfterA_history_bus (l : Latch) (t : Transfer) (s : State) :
    (readBothAfterA l t s).history = s.history ∧ (readBothAfterA l t s).bus = s.bus := by
  unfold readBothAfterA
  split
  · exact ⟨State.completeFacade_history .., State.completeFacade_bus ..⟩
  · exact ⟨rfl, rfl⟩

theorem readBothAfterB_history_bus (t : Transfer) (s : State) :
    (readBothAfterB t s).history = s.history ∧ (readBothAfterB t s).bus = s.bus := by
  unfold readBothAfterB
  split
  · exact ⟨State.completeFacade_history .., State.completeFacade_bus ..⟩
  · exact ⟨rfl, rfl⟩

/-- The SIZE of a latched register write or read is at most N_BUF (41_transport.md R125). -/
theorem Latch.size_le_of_writeReg {nBuf n : Nat} {l : Latch} {reg : Byte} (h : l.fits nBuf = true)
    (hi : decodeCommand l.word = .ok (.writeReg reg n)) : n ≤ nBuf := by
  simp only [Latch.fits, hi, decide_eq_true_eq] at h
  exact h.2

theorem Latch.size_le_of_readReg {nBuf n : Nat} {l : Latch} {reg : Byte} (h : l.fits nBuf = true)
    (hi : decodeCommand l.word = .ok (.readReg reg n)) : n ≤ nBuf := by
  simp only [Latch.fits, hi, decide_eq_true_eq] at h
  exact h.2.2

/-- An instruction adds at most one exchange, well framed; `i` is the latched one while the engine is busy. -/
theorem exec_addsWellFramed {s s' : State} {i : Instr} (h : s.Inv)
    (hlatched : s.status.busy = true → ∃ l, s.latch = some l ∧ decodeCommand l.word = .ok i)
    (hexec : exec i s = .next s') : s.AddsWellFramed s' := by
  obtain ⟨hpos, -⟩ := h.nBuf_range
  have hport (addr : BitVec 7) (reg : Byte) : (readBody addr reg 1).length ≤ s.nBuf + 4 := by
    rw [length_readBody _ _ le_rfl]
    omega
  cases i with
  | init =>
    obtain ⟨-, rfl⟩ | ⟨-, l, c, -, -, ⟨-, rfl⟩ | ⟨-, rfl⟩⟩ := execInit_cases hexec
    · exact .inl (by simp)
    · obtain ⟨hhistory, hbus⟩ := initAfterConfig_history_bus l c
        ((s.takeReply 1).record (.config l.ldev.chan (cfgRecord l.ldev)) (Reply.ofCode c))
      exact .of_asked (by simp) hhistory hbus
    · obtain ⟨hhistory, hbus⟩ := initAfterInstall_history_bus c
        ((s.takeReply 1).record (.install l.ldev.chan instRecord) (Reply.ofCode c))
      exact .of_asked (by simp) hhistory hbus
  | writeReg reg n =>
    obtain ⟨-, -, rfl⟩ | ⟨-, -, rfl⟩ | ⟨hb, l, t, -, -, -, ht, rfl⟩ := execWriteReg_cases hexec
    · exact .inl rfl
    · exact .inl rfl
    · obtain ⟨l', hl', hi⟩ := hlatched hb
      have hn := Latch.size_le_of_writeReg (h.latch_fits l' hl') hi
      have hlen : (writeBody l.ldev.addr reg (s.payload n)).length ≤ s.nBuf + 4 := by
        rw [length_writeBody, length_payload]
        omega
      exact .of_transacted l.ldev.chan (isBody_writeBody _ _ _) hlen ht rfl rfl
  | readReg reg n =>
    obtain ⟨-, -, rfl⟩ | ⟨-, -, rfl⟩ | ⟨-, -, -, rfl⟩ | ⟨hb, l, t, -, -, h1, -, ht, rfl⟩ := execReadReg_cases hexec
    · exact .inl rfl
    · exact .inl rfl
    · exact .inl rfl
    · obtain ⟨l', hl', hi⟩ := hlatched hb
      have hn := Latch.size_le_of_readReg (h.latch_fits l' hl') hi
      have hlen : (readBody l.ldev.addr reg n).length ≤ s.nBuf + 4 := by
        rw [length_readBody _ _ h1]
        omega
      exact .of_transacted l.ldev.chan (isBody_readBody _ _ _) hlen ht (by simp) (by simp)
  | writeConfig reg v =>
    obtain ⟨-, rfl⟩ | ⟨-, l, t, -, -, -, ht, rfl⟩ := execWriteConfig_cases hexec
    · exact .inl rfl
    · have hlen : (writeBody l.ldev.addr reg [v]).length ≤ s.nBuf + 4 := by
        rw [length_writeBody, List.length_singleton]
        omega
      exact .of_transacted l.ldev.chan (isBody_writeBody _ _ _) hlen ht (by simp) (by simp)
  | readPort reg slot =>
    obtain ⟨-, rfl⟩ | ⟨-, l, t, -, -, -, ht, rfl⟩ := execReadPort_cases hexec
    · exact .inl rfl
    · exact .of_transacted l.ldev.chan (isBody_readBody _ _ _) (hport _ _) ht (by simp) (by simp)
  | readBoth =>
    obtain ⟨-, rfl⟩ | ⟨-, l, t, -, -, ⟨-, ht, rfl⟩ | ⟨-, ht, rfl⟩⟩ := execReadBoth_cases hexec
    · exact .inl rfl
    · obtain ⟨hhistory, hbus⟩ := readBothAfterA_history_bus l t
        ((s.transacted l.ldev.chan (readBody l.ldev.addr 0x12#8 1) t).landPort .portA t)
      exact .of_transacted l.ldev.chan (isBody_readBody _ _ _) (hport _ _) ht (hhistory.trans (by simp))
        (hbus.trans (by simp))
    · obtain ⟨hhistory, hbus⟩ := readBothAfterB_history_bus t
        ((s.transacted l.ldev.chan (readBody l.ldev.addr 0x13#8 1) t).landPort .portB t)
      exact .of_transacted l.ldev.chan (isBody_readBody _ _ _) (hport _ _) ht (hhistory.trans (by simp))
        (hbus.trans (by simp))
  | start | stop | wr data | rdAck | rdNack =>
    cases hexec
    exact .inl (State.onBus_history s _)

/-- Settles O46: only a command sends a request (`step_cases`), and what it sends is well framed
(`exec_addsWellFramed`). -/
theorem requestsAreWellFramed : Obligations.RequestsAreWellFramed := by
  intro s s' h hstep
  show s.AddsWellFramed s'
  obtain ⟨-, -, rfl⟩ | ⟨l, i, hrun, hexec⟩ | ⟨off, rest, -, -, -, rfl⟩ | ⟨off, v, rest, -, -, -, hw⟩ |
    ⟨p, i, rest, -, hp, hexec⟩ | ⟨rest, -, rfl⟩ | ⟨rest, -, rfl⟩ := step_cases hstep
  · exact .inl rfl
  · obtain ⟨-, -, -, hl, hi⟩ := hrun
    exact (exec_addsWellFramed (h.withScript s.script.tail) (fun _ => ⟨l, hl, hi⟩) hexec :)
  · exact .inl rfl
  · obtain ⟨-, rfl⟩ | ⟨-, -, -, rfl⟩ | ⟨-, -, -, -, rfl⟩ | ⟨-, -, hb, i, -, hexec⟩ | ⟨-, -, rfl⟩ := hw
    · exact .inl rfl
    · exact .inl rfl
    · exact .inl rfl
    · exact (exec_addsWellFramed (h.withScript rest) (fun hb' => by simp [hb] at hb') hexec :)
    · exact .inl (by simp)
  · obtain ⟨f, rfl⟩ := exec_prim_onBus hp hexec
    exact .inl (by simp)
  · exact .inl rfl
  · exact .inl rfl

/-! ### The engine sees only the answers -/

/-- The state with another Bus Controller's record. -/
def State.withBus (b : Bus) (s : State) : State := { s with bus := b }

/-- What one computation answers the other answers too. -/
def Follows {α : Type} (r r' : Result α) : Prop := ∀ a, r = .next a → r' = .next a

theorem Follows.andThen {α β : Type} {r r' : Result α} (h : Follows r r') (f : α → Result β) :
    Follows (andThen r f) (andThen r' f) := by
  intro b hb
  obtain ⟨a, ha, hfa⟩ := andThen_next hb
  rw [h a ha, andThen_next_eq, hfa]

/-- A queue that was appended to the end never overflowed (40_session.md R102). -/
theorem sessAppendAll_next_length {ps : List PrimWord} {s s' : State} (h : sessAppendAll ps s = .next s')
    (hpq : s.pq.length ≤ s.qMax) : s.pq.length + ps.length ≤ s.qMax := by
  induction ps generalizing s with
  | nil => exact hpq
  | cons p ps ih =>
    obtain ⟨u, hu, hrest⟩ := andThen_next h
    unfold sessAppend at hu
    split_ifs at hu with hopen hroom
    cases hu
    have hgrown : (s.pq ++ [p]).length = s.pq.length + 1 := by simp
    have hfits := ih hrest (hgrown ▸ hroom)
    rw [List.length_cons, Nat.add_comm ps.length, ← Nat.add_assoc, ← hgrown]
    exact hfits

/-- A session that ended fitted the queue, as Q_MAX leaves room for its START. -/
theorem length_lt_of_transact_next {chan : Byte} {body : List PrimWord} {s : State} {r : Transfer × State}
    (h : transact chan body s = .next r) : body.length < s.qMax := by
  obtain ⟨u, hu, hrest⟩ := andThen_next h
  obtain ⟨w, hw, -⟩ := andThen_next hrest
  unfold sessOpen at hu
  split_ifs at hu
  cases hu
  have hfits : 1 + body.length ≤ s.qMax := sessAppendAll_next_length hw (by simp [State.qMax])
  omega

/-- A session begins its submission on a fresh bus, so it ends alike whatever the bus was before. -/
theorem transact_follows_withBus (b : Bus) (chan : Byte) (body : List PrimWord) (s : State) :
    Follows (transact chan body s) (transact chan body (s.withBus b)) := by
  intro r h
  obtain ⟨hs, -, -⟩ := transact_cases h
  have hfit := length_lt_of_transact_next h
  rw [transact_eq chan hs hfit] at h
  rw [transact_eq chan (s := s.withBus b) hs hfit]
  exact h

theorem readPortBody_follows_withBus (b : Bus) (reg : Byte) (slot : Slot) (d : Device) (s : State) :
    Follows (readPortBody reg slot d s) (readPortBody reg slot d (s.withBus b)) :=
  (transact_follows_withBus b _ _ s).andThen _

/-- The single request of a latched command, with whatever the command does after it. -/
theorem withXfer_follows_withBus (b : Bus) {s : State} {f g : Latch → Result State} (h : ∀ l, Follows (f l) (g l)) :
    Follows (s.withXfer f) ((s.withBus b).withXfer g) := by
  intro s' hs'
  obtain ⟨l, hl, hx, hf⟩ := withXfer_next hs'
  rw [State.withXfer_eq (s := s.withBus b) hl hx, h l s' hf]

/-- INIT's requests and its acceptance carry the bus along. -/
theorem execInit_withBus {s s' : State} (b : Bus) (h : execInit s = .next s') :
    execInit (s.withBus b) = .next (s'.withBus b) := by
  obtain ⟨hb, rfl⟩ | ⟨hb, l, c, hl, hc, ⟨hstep, rfl⟩ | ⟨hstep, rfl⟩⟩ := execInit_cases h
  · refine (exec_init_of_idle (s := s.withBus b) hb).trans (congrArg _ ?_)
    unfold State.markReinit
    cases hi : s.status.inst <;> simp [hi, State.withBus, State.recordFault, State.accept]
  · refine (exec_init_cfg (s := s.withBus b) hb hl hstep hc).trans (congrArg _ ?_)
    unfold initAfterConfig State.completeFacade
    split
    · rfl
    · split <;> rfl
  · refine (exec_init_inst (s := s.withBus b) hb hl hstep hc).trans (congrArg _ ?_)
    unfold initAfterInstall State.completeFacade
    split
    · rfl
    · split <;> rfl

/-- READ_BOTH's Engine step, by its sub-step. -/
theorem readBothStep_follows_withBus (b : Bus) (s : State) : Follows (readBothStep s) (readBothStep (s.withBus b)) := by
  intro s' hs'
  obtain ⟨l, hl, h⟩ := withLatch_next hs'
  rw [readBothStep, State.withLatch_eq (s := s.withBus b) hl]
  cases hstep : l.step <;> rw [hstep] at h
  case a => exact (readPortBody_follows_withBus b _ _ _ s).andThen _ s' h
  case b => exact (readPortBody_follows_withBus b _ _ _ s).andThen _ s' h
  all_goals cases h

/-- Settles O53: a command that sends a BcSubmit ends in the very same state, as its session begins on a fresh bus
(`transact_follows_withBus`); any other leaves the bus it found. -/
theorem engineSeesOnlyAnswers : Obligations.EngineSeesOnlyAnswers := by
  intro w i s s' b hi h
  show ∃ b', exec i (s.withBus b) = .next { s' with bus := b' }
  have submits {r r' : Result State} (hr : exec i s = r) (hr' : exec i (s.withBus b) = r') (hfollows : Follows r r') :
      ∃ b', exec i (s.withBus b) = .next { s' with bus := b' } :=
    ⟨s'.bus, hr'.trans (hfollows s' (hr.symm.trans h))⟩
  have keeps {u u' : State} (hu : exec i s = .next u) (hu' : exec i (s.withBus b) = .next u')
      (hbus : u' = u.withBus b) : ∃ b', exec i (s.withBus b) = .next { s' with bus := b' } := by
    rw [h] at hu
    cases hu
    exact ⟨b, hu'.trans (congrArg _ hbus)⟩
  obtain ⟨hstart, hstop, hwr, hack, hnack⟩ := decodeCommand_not_prim hi
  cases i with
  | init => exact ⟨b, execInit_withBus b h⟩
  | writeReg reg n =>
    cases hb : s.status.busy with
    | false =>
      refine keeps (exec_writeReg_of_idle hb reg n) (exec_writeReg_of_idle (s := s.withBus b) hb reg n) ?_
      rw [apply_ite (State.withBus b)]
      rfl
    | true =>
      refine submits (if_pos hb) (if_pos hb) (withXfer_follows_withBus b fun l => ?_)
      exact (transact_follows_withBus b _ _ s).andThen _
  | readReg reg n =>
    cases hb : s.status.busy with
    | false =>
      refine keeps (exec_readReg_of_idle hb reg n) (exec_readReg_of_idle (s := s.withBus b) hb reg n) ?_
      rw [apply_ite (State.withBus b), apply_ite (State.withBus b)]
      rfl
    | true =>
      refine submits (if_pos hb) (if_pos hb) (withXfer_follows_withBus b fun l s' hs' => ?_)
      split_ifs at hs' ⊢
      exact (transact_follows_withBus b _ _ s).andThen _ s' hs'
  | writeConfig reg v =>
    cases hb : s.status.busy with
    | false =>
      exact keeps (exec_writeConfig_of_idle hb reg v) (exec_writeConfig_of_idle (s := s.withBus b) hb reg v) rfl
    | true =>
      refine submits (if_pos hb) (if_pos hb) (withXfer_follows_withBus b fun l => ?_)
      exact (transact_follows_withBus b _ _ s).andThen _
  | readPort reg slot =>
    cases hb : s.status.busy with
    | false =>
      exact keeps (exec_readPort_of_idle hb reg slot) (exec_readPort_of_idle (s := s.withBus b) hb reg slot) rfl
    | true =>
      refine submits (if_pos hb) (if_pos hb) (withXfer_follows_withBus b fun l => ?_)
      exact (readPortBody_follows_withBus b _ _ _ s).andThen _
  | readBoth =>
    cases hb : s.status.busy with
    | false => exact keeps (exec_readBoth_of_idle hb) (exec_readBoth_of_idle (s := s.withBus b) hb) rfl
    | true => exact submits (if_pos hb) (if_pos hb) (readBothStep_follows_withBus b s)
  | start => exact absurd rfl hstart
  | stop => exact absurd rfl hstop
  | wr data => exact absurd rfl (hwr data)
  | rdAck => exact absurd rfl hack
  | rdNack => exact absurd rfl hnack

end Sys2Proof.Machine

/-! Proofs about the Host's reads (20_memory.md sections 2 and 4; 10_state.md R32-R37): the values of the registers,
the RXBUF bytes a read in progress does not cover, and that a read changes nothing. -/

namespace Sys2Proof.Machine

/-- The read value of DEVICE as a number: each field at its bits, 0 elsewhere (10_state.md R32-R35). -/
theorem Device.word_toNat (d : Device) :
    d.word.toNat = d.addr.toNat + 256 * d.chan.toNat + 65536 * d.sda.toNat + 16777216 * d.scl.toNat := by
  simp only [Device.word, toNat_append_eq, BitVec.toNat_ofNat]
  omega

/-- RESULT's bits 31:16 read 0 (10_state.md R37). -/
theorem State.resultSeen_lt (s : State) : s.resultSeen.toNat < 65536 := by
  have hlow (h : BitVec 16) : (0#16 ++ h).toNat < 65536 := by
    rw [toNat_append_eq, BitVec.toNat_ofNat, Nat.zero_mod, Nat.zero_mul, Nat.zero_add]
    exact h.isLt
  unfold State.resultSeen
  split
  · exact hlow _
  · split
    · exact hlow _
    · exact hlow _

/-- While no READ_BOTH is latched RESULT reads RESULT16 (20_memory.md R65). -/
theorem State.resultSeen_of_no_readBoth {s : State} (h : ∀ l, s.latch = some l → l.op ≠ 6#4) :
    s.resultSeen.toNat = s.result16.toNat := by
  have hread : s.resultSeen = 0#16 ++ s.result16 := by
    unfold State.resultSeen
    split
    · rfl
    · rename_i l hl
      rw [if_neg (h l hl)]
  rw [hread, toNat_append_eq, BitVec.toNat_ofNat, Nat.zero_mod, Nat.zero_mul, Nat.zero_add]

/-- Settles O12: each register's read value by its own lemma. -/
theorem registerReadValues : Obligations.RegisterReadValues := fun s =>
  ⟨Device.word_toNat s.device, rfl, s.resultSeen_lt, State.resultSeen_of_no_readBoth⟩

/-- The size of the read in progress by the latched command (20_memory.md R65, log 7). -/
theorem State.readInProgress_of_latched {s : State} {l : Latch} (hl : s.latch = some l) :
    s.readInProgress = if l.op = 3#4 then l.arg.toNat else if l.op = 5#4 ∨ l.op = 6#4 then 1 else 0 := by
  rw [State.readInProgress, hl]

/-- A byte the read in progress does not cover reads as stored (20_memory.md R65). -/
theorem State.rxSeen_of_readInProgress_le {s : State} {i : Nat} (h : s.readInProgress ≤ i) : s.rxSeen i = s.rxByte i :=
  if_neg fun hi => absurd hi.1 (not_lt.mpr h)

/-- Settles O22: the read in progress is of the size the latched command says (`State.readInProgress_of_latched`), and
the byte stands at or above it. -/
theorem rxbufDuringRead : Obligations.RxbufDuringRead := by
  intro s l i j hl _ hi hj hop
  rw [s.byteOfWord_windowRead_rxbuf hi hj]
  apply State.rxSeen_of_readInProgress_le
  rw [State.readInProgress_of_latched hl]
  obtain hop | hop | hop | ⟨hop, hle⟩ | ⟨hop | hop, hle⟩ := hop
  · simp [hop]
  · simp [hop]
  · simp [hop]
  · simpa [hop] using hle
  · simpa [hop] using hle
  · simpa [hop] using hle

/-- Only RXBUF and RESULT with a command latched read a free value, so elsewhere the draw counter does not show
(20_memory.md R54, R65). -/
theorem State.windowRead_draws (s : State) (d off : Nat)
    (h : s.latch = none ∨ (off ≠ 0x010 ∧ ¬(0x200 ≤ off ∧ off < 0x300))) :
    State.windowRead off { s with draws := d } = s.windowRead off := by
  obtain hl | ⟨hresult, hrx⟩ := h
  · have hresult : State.resultSeen { s with draws := d } = s.resultSeen := by
      simp only [State.resultSeen, hl]
    have hrx (i : Nat) : State.rxSeen { s with draws := d } i = s.rxSeen i := by
      rw [State.rxSeen_of_latch_none hl, State.rxSeen_of_latch_none (s := { s with draws := d }) hl]
      rfl
    simp only [State.windowRead, hresult, State.rxWord, hrx]
    rfl
  · simp only [State.windowRead, if_neg hresult, if_neg hrx]
    rfl

/-- Settles O11: the read's value and its draws are all it changes (`step_read`), and the draws do not show
(`State.windowRead_draws`). -/
theorem hostReadsHaveNoSideEffect : Obligations.HostReadsHaveNoSideEffect := fun s _ _ hs h4 hw =>
  ⟨s.draws + 4, step_read hs h4 hw, fun off' h => s.windowRead_draws _ off' h⟩

end Sys2Proof.Machine

/-! Proofs about the reset input (70_reset_and_hazards.md section 1) and the uses from outside that the model refuses
(60_exceptions.md section 4, 30_encoding.md R90). -/

namespace Sys2Proof.Machine

/-- Settles O55: asserting reset by its own definition, the bus by `State.busAfterReset_eq`; a CMD write under reset is
without effect, and releasing it is one field. -/
theorem resetInput : Obligations.ResetInput := by
  refine ⟨fun s rest hs => ?_, fun s w rest hs hr => ?_, fun s rest hs => ?_⟩
  · refine ⟨s.busAfterReset, State.draws (State.assertReset s), ?_, fun hl => ?_⟩
    · simp only [step, hs, runEvent]
      rfl
    · exact State.busAfterReset_eq (State.submitPending_eq_false hl)
  · rw [step_write hs (by decide) (by decide), hostWrite, if_pos hr]
  · simp only [step, hs, runEvent]

/-- Settles O59: the second master's event is itself a refusal, and so is a word the decoder rejects. -/
theorem outsideUsesAreRefused : Obligations.OutsideUsesAreRefused := by
  refine fun s rest => ⟨fun hs => ?_, fun p hs hp => ?_⟩
  · simp only [step, hs, runEvent]
  · simp only [step, hs, runEvent, primTurn, hp]

end Sys2Proof.Machine
